-- ==== Sys2Proof/Word.lean ====
section
/-! DEFINITION. The word types of the block (spec 00_scope.md R9 to R11): a byte, an operation code of
the command port, and the level of a line. -/

namespace Sys2Proof

/-- One byte; bit 0 is its least significant bit (R9); arithmetic is modulo 256 (R11). -/
abbrev Byte := BitVec 8

/-- An operation code `OP[2:0]` of the command port (R76). -/
abbrev OpCode := BitVec 3

/-- The level of a digital line: `true` is HIGH, written 1, and `false` is LOW, written 0 (R10). -/
abbrev Level := Bool

end Sys2Proof
end

