-- ==== Sys2Proof/Config.lean ====
section
/-! DEFINITION. The implementation parameters of the block (spec 00_scope.md R8). A model of the block
takes them as configuration: `Machine.State.cfg` carries one `Params`, no step changes it, and every
statement holds for every value of it (log 1). -/

namespace Sys2Proof

/-- The two variants of the block (R3): A has the 3-byte report, B the 4-byte report, axis Z and
SET_REPORT. -/
inductive Variant where
  | A
  | B
deriving DecidableEq, Repr

/-- The parameters of R8 that are not functions of the variant. -/
structure Params where
  /-- `VARIANT`. -/
  variant : Variant
  /-- `AXIS_X`, stored as a byte (R72). -/
  axisX : Byte
  /-- `AXIS_Y`, stored as a byte (R72). -/
  axisY : Byte
  /-- `Z_STEP`; it has no effect in variant A (R123). -/
  zStep : Byte
  /-- `A_BTN_ZERO`; it has no effect in variant B (R126). -/
  aBtnZero : Bool
  /-- `LED_ST_RESET`, the open reset level of the status LED (R27, R35). -/
  ledStReset : Level
deriving DecidableEq, Repr

/-- `HAS_Z`: the axis-Z presence flag (R8). -/
def Params.hasZ (p : Params) : Bool :=
  match p.variant with
  | .A => false
  | .B => true

/-- `N`: the number of bytes of a report (R8, R70, R71). -/
def Params.n (p : Params) : Nat :=
  match p.variant with
  | .A => 3
  | .B => 4

/-- `BTN_OFF`: the offset of the buttons byte, the last of both layouts (R8). -/
def Params.btnOff (p : Params) : Nat := p.n - 1

/-- `HAS_SETREP`: whether the host port has SET_REPORT and its write-continuation (R8, R80). -/
def Params.hasSetrep (p : Params) : Bool :=
  match p.variant with
  | .A => false
  | .B => true

/-- The buttons byte is the sample: every block but a variant A with `A_BTN_ZERO` (R122, R126). -/
def Params.buttonsSampled (p : Params) : Bool :=
  match p.variant with
  | .A => !p.aBtnZero
  | .B => true

/-- `NBITS`: the number of reads of one sample, fixed (R8). -/
def Config.nBits : Nat := 8

/-- `OUT_BUF_LEN`: the bytes of the SET_REPORT payload in variant B (R8, R50). The block stores no byte of
it and no rule depends on it. -/
def Config.outBufLen : Nat := 20

/-- Variant A with the spec's defaults (R8, R121) and a given `LED_ST_RESET`. -/
def Config.defaultsA (led : Level) : Params :=
  { variant := .A, axisX := 0x80#8, axisY := 0x42#8, zStep := 20#8, aBtnZero := false, ledStReset := led }

/-- Variant B with the spec's defaults (R8, R121, R123) and a given `LED_ST_RESET`. -/
def Config.defaultsB (led : Level) : Params :=
  { variant := .B, axisX := 0x42#8, axisY := 0x42#8, zStep := 20#8, aBtnZero := false, ledStReset := led }

/-- The parameters that `State.reset` carries. DESIGN CHOICE, unsafe (logs 1 and 2): variant B, since it
has all eight operations, and the level 0 for the open `LED_ST_RESET`. -/
def Config.params : Params := Config.defaultsB false

end Sys2Proof
end

