-- ==== Sys2Proof/Syntax.lean ====
section
/-! DEFINITION. The operations of the command port, one constructor per row of spec/opcode_table.json, and
the notation of a run (spec 30_encoding.md R76, R77, R79, R83). -/

namespace Sys2Proof

/-- The eight operations of the command port (R76). No operation has an operand field (R77). -/
inductive Instr where
  /-- `000` SAMPLE (R100), engine. -/
  | sample
  /-- `001` BUILD (R120), engine. -/
  | build
  /-- `010` MSEND (R140), engine. -/
  | msend
  /-- `011` CYCLE (R145), engine. -/
  | cycle
  /-- `100` GETREP (R160), host. -/
  | getrep
  /-- `101` SETREP (R161), host, variant B only. -/
  | setrep
  /-- `110` WRCHUNK (R162), host, variant B only. -/
  | wrchunk
  /-- `111` UNHREQ (R163), host. -/
  | unhreq
deriving DecidableEq, Repr

/-- The two issuers of operations (R76, R187). -/
inductive Port where
  | engine
  | host
deriving DecidableEq, Repr

/-- The column "port" of the table of R76. -/
def Instr.port : Instr → Port
  | .sample => .engine
  | .build => .engine
  | .msend => .engine
  | .cycle => .engine
  | .getrep => .host
  | .setrep => .host
  | .wrchunk => .host
  | .unhreq => .host

/-- The column "mnemonic" of the table of R76, which starts a line of R83. -/
def Instr.mnemonic : Instr → String
  | .sample => "SAMPLE"
  | .build => "BUILD"
  | .msend => "MSEND"
  | .cycle => "CYCLE"
  | .getrep => "GETREP"
  | .setrep => "SETREP"
  | .wrchunk => "WRCHUNK"
  | .unhreq => "UNHREQ"

/-- What the environment supplies with one operation (R77, R83): `ready=`, `ser=` and `chunk=`. An operation
that does not consume one of them ignores it. -/
structure Inputs where
  /-- The value `READY` gives (R30). -/
  ready : Level
  /-- The values the eight reads of `SER` give, in read order: entry `i` is `s_i` (R30, R74). -/
  ser : Vector Level 8
  /-- The payload chunk of a write-continuation, any length and content (R162). -/
  chunk : List Byte
deriving DecidableEq, Repr

/-- The request type of a class-specific control request (R79, R83). -/
inductive RequestType where
  | getReport
  | setReport
  | other
deriving DecidableEq, Repr

/-- A host request as the surrounding software has classified it (R79; the operands of HOSTREQ, R83). -/
structure Request where
  classSpecific : Bool
  type : RequestType
deriving DecidableEq, Repr

/-- One act of the issuers or of the environment, the model's form of one line of a run (R83, R191; log 5). -/
inductive Stimulus where
  /-- An operation is presented on the command port and taken as one atomic transition (R7). -/
  | op (code : OpCode) (inp : Inputs)
  /-- An operation is presented and taken micro-step by micro-step (R36; log 8). -/
  | start (code : OpCode) (inp : Inputs)
  /-- The pseudo-operation HOSTREQ (R83). -/
  | hostreq (req : Request) (inp : Inputs)
  /-- Nothing is presented: the sequencer takes one micro-step, or the idle block waits (R36, R201). -/
  | tick
  /-- The environment clears `WRP` (R165). -/
  | clearWrp
  /-- The RESET event (R200). -/
  | reset
deriving DecidableEq, Repr

end Sys2Proof
end

