-- ==== Sys2Proof/WellFormed.lean ====
section
/-! DEFINITION. Which operations and reports are well formed for the parameters of the block. -/

namespace Sys2Proof

/-- A report: its bytes in offset order, byte 0 first (R50 to R52). -/
abbrev Report := List Byte

/-- The operation exists in the variant (column "variants" of R76): SETREP and WRCHUNK are absent in
variant A (R80). -/
def Instr.wf (p : Params) : Instr → Bool
  | .sample => true
  | .build => true
  | .msend => true
  | .cycle => true
  | .getrep => true
  | .setrep => p.hasSetrep
  | .wrchunk => p.hasSetrep
  | .unhreq => true

/-- The canonical form of a report register: exactly `N` bytes (R21, R22). -/
def Report.wf (p : Params) (r : Report) : Bool := r.length == p.n

end Sys2Proof
end

