-- ==== Sys2Proof/Machine/State.lean ====
section
/-! DEFINITION. The state of the block as plain data (spec 10_state.md R20 to R36), the events and results it
gives (00_scope.md R13, 30_encoding.md R78), the reasons a step can stop, and the state after reset (R35, R200). -/

namespace Sys2Proof.Machine

/-- The output lines of the block (R189). -/
inductive OutLine where
  | clk
  | load
  | ledSt
deriving DecidableEq, Repr

/-- The input ports of the block (R30). -/
inductive InPort where
  | ser
  | ready
deriving DecidableEq, Repr

/-- The kinds of answer to a host operation (R78). -/
inductive ResponseKind where
  | handled
  | deferredWrite
  | writeComplete
  | notHandled
deriving DecidableEq, Repr

/-- The events an operation produces for the outside of the block (R13). -/
inductive Event where
  /-- `Set(line, level)`. -/
  | set (line : OutLine) (level : Level)
  /-- `Read(port) = v`. -/
  | read (port : InPort) (v : Level)
  /-- `SendInterrupt(bytes, len)`: the bytes are a copy (R61; log 16). -/
  | sendInterrupt (bytes : Report) (len : Nat)
  /-- `SetResponsePointer(bytes, len)`: the bytes are a copy (R61; log 16). -/
  | setResponsePointer (bytes : Report) (len : Nat)
  /-- `SetDeferredWrite`. -/
  | setDeferredWrite
  /-- `Response(kind, len)`; `none` is the length the spec writes `-` (R78). -/
  | response (kind : ResponseKind) (len : Option Nat)
deriving DecidableEq, Repr

/-- What an operation gives on the port beside its events (R78). -/
inductive Result where
  /-- No result: BUILD's, and before any operation. -/
  | none
  /-- `RAWOUT` of SAMPLE. -/
  | rawOut (b : Byte)
  /-- `SENT` of MSEND and CYCLE (R33). -/
  | sent (b : Bool)
  /-- `Response(Handled, N)` with the bytes of `LAST`. -/
  | handled (bytes : Report)
  /-- `Response(DeferredWrite, -)`. -/
  | deferredWrite
  /-- `Response(WriteComplete, -)`. -/
  | writeComplete
  /-- `Response(NotHandled, 0)`. -/
  | notHandled
  /-- The request has not been accepted, since a deferred write is outstanding (R165; the model's name, log 12). -/
  | notAccepted
deriving DecidableEq, Repr

/-- The sequencer register `SEQ`: which micro-step is next (R28). -/
inductive SeqState where
  | idle
  | rdy
  | ldLo
  | ldHi
  | ckHi (i : Fin 8)
  | ckLo (i : Fin 8)
  | rd (i : Fin 8)
  | bld
  | cmp
  | cpy
  | tx
  | led
deriving DecidableEq, Repr

/-- The whole state: the nine registers of R20, the parameters of R8, and the model's own fields, which
INVENTORY.md lists as such. -/
structure State where
  /-- The parameters (R8); no step changes them (log 1). -/
  cfg : Params
  /-- `CUR`, the current report (R21). -/
  cur : Report
  /-- `LAST`, the last-sent report (R22). -/
  last : Report
  /-- `FB`, the feedback flag (R23). -/
  fb : Bool
  /-- `RAW`, the bits of the sample in progress (R24). -/
  raw : Byte
  /-- `CLK`, the latch of the shift-clock line (R25). -/
  clk : Level
  /-- `LOAD`, the latch of the shift-load line (R26). -/
  load : Level
  /-- `LED_ST`, the latch of the status LED line (R27). -/
  ledSt : Level
  /-- `SEQ`, the sequencer (R28). -/
  seq : SeqState
  /-- `WRP`, a SET_REPORT payload is awaited (R29). -/
  wrp : Bool
  /-- The model's: the operation whose micro-steps are in progress (log 9). -/
  op : Option Instr
  /-- The model's: the input values of the operation presented (log 7). -/
  inp : Inputs
  /-- The model's: the result the last operation gave (log 11). -/
  result : Result
  /-- The model's: the events since the last reset, oldest first (log 10). -/
  trace : List Event
  /-- The model's: the events before the last reset, oldest first (log 10). -/
  earlier : List Event
  /-- The model's: what the issuers and the environment do next (log 5). -/
  script : List Stimulus
deriving DecidableEq, Repr

/-- Why a step stops with a fault: never. The block has no fault outcome (R180), so the type is empty (log 24). -/
inductive Fault where
deriving DecidableEq, Repr

/-- Why an operation is refused: the spec gives it no meaning in this state (R12 `refuse`, R181 e). Each refusal is
safe: it claims nothing (log 13). -/
inductive Refusal where
  /-- An operation with no meaning in the model, by its mnemonic; no arm raises it. Safe. -/
  | notModelled (mnemonic : String)
  /-- Any operation, or the clearing of `WRP`, while `SEQ` is not `IDLE` (U10, R36; log 14). Safe. -/
  | busy
  /-- MSEND while the environment's `READY` is 0 (U7, R144). Safe. -/
  | usbNotReady
  /-- WRCHUNK with no deferred write outstanding (U8, R162 b). Safe. -/
  | noDeferredWrite
  /-- SETREP or WRCHUNK in variant A (U9, R80). Safe. -/
  | absentInVariantA
deriving DecidableEq, Repr

/-- What a step or an operation answers. -/
abbrev Outcome := Host.Outcome State Fault Refusal

/-- The input values before any operation is presented. DESIGN CHOICE, unsafe (log 7): no operation reads them
before a stimulus has replaced them. -/
def Inputs.atReset : Inputs :=
  { ready := false, ser := Vector.replicate 8 false, chunk := [] }

/-- The state after the RESET event for given parameters (R35, R200). `raw` is a DESIGN CHOICE, unsafe (log 3);
the model's own fields are those of logs 7, 9, 10, 11 and 5. -/
def State.resetOf (p : Params) : State :=
  { cfg := p
    cur := List.replicate p.n 0x00#8
    last := List.replicate p.n 0x00#8
    fb := false
    raw := 0x00#8
    clk := false
    load := true
    ledSt := p.ledStReset
    seq := .idle
    wrp := false
    op := none
    inp := Inputs.atReset
    result := .none
    trace := []
    earlier := []
    script := [] }

/-- The machine right after reset, with the parameters of `Config.params` (logs 1 and 2). -/
def State.reset : State := State.resetOf Config.params

end Sys2Proof.Machine
end

