-- ==== Sys2Proof/Machine/Ops.lean ====
section
/-! DEFINITION. The named operations over the registers, the lines and the event list, and the admission of an
operation to the port. -/

namespace Sys2Proof.Machine

/-! ### Reports as byte arrays (R12, R50) -/

/-- `MemRead((r, k), n)`: bytes `r[k]` to `r[k+n-1]` in offset order. Every use has `k + n` at most `N` (R50; log 18). -/
def memRead (r : Report) (k n : Nat) : Report := (r.drop k).take n

/-- `MemWrite((r, k), n, v)` with `n` the length of `v`. Every use has `k + n` at most `N` (R50; log 18). -/
def memWrite (r : Report) (k : Nat) (v : Report) : Report := r.take k ++ v ++ r.drop (k + v.length)

/-- Byte `k` of a report. The spec reads no byte outside a report; there the model gives 0x00 (log 18). -/
def byteAt (r : Report) (k : Nat) : Byte := r.getD k 0x00#8

/-! ### Bits (R9) -/

/-- `b[i] <- v`. -/
def setBit (b : Byte) (i : Fin 8) (v : Bool) : Byte :=
  if v then b ||| (1#8 <<< i.val) else b &&& ~~~(1#8 <<< i.val)

/-! ### Events and lines (R13) -/

/-- `emit e`: append to the ordered event list. -/
def State.emit (s : State) (e : Event) : State := { s with trace := s.trace ++ [e] }

/-- `CLK <- v` with its event. -/
def State.setClk (s : State) (v : Level) : State := { s with clk := v }.emit (.set .clk v)

/-- `LOAD <- v` with its event. -/
def State.setLoad (s : State) (v : Level) : State := { s with load := v }.emit (.set .load v)

/-- `LED_ST <- v` with its event. -/
def State.setLedSt (s : State) (v : Level) : State := { s with ledSt := v }.emit (.set .ledSt v)

/-! ### The end of an operation and its admission -/

/-- The operation ends: `SEQ` returns to `IDLE` and the result stands on the port (R36, R78). -/
def State.complete (s : State) (r : Result) : State := { s with seq := .idle, op := none, result := r }

/-- A host request that is not accepted: nothing happens but that the port says so (R165; log 12). -/
def State.notAccept (s : State) : State := { s with result := .notAccepted }

/-- What the entry condition of an operation decides. -/
inductive Admission where
  /-- The entry condition holds. -/
  | accept
  /-- The request waits outside: it is not accepted while `WRP = 1` (R165, U11). -/
  | hold
  /-- The spec gives the operation no meaning in this state. -/
  | refuse (r : Refusal)
deriving DecidableEq, Repr

/-- An operation that would end in (or begin with) `t`, taken from `s` as its admission says. -/
def State.admitted (s : State) (a : Admission) (t : State) : Outcome :=
  match a with
  | .accept => .next t
  | .hold => .next s.notAccept
  | .refuse r => .refused r

/-- The entry condition of SAMPLE, BUILD and CYCLE: `SEQ = IDLE` (R36, R100, R120, R145). -/
def State.admitEngine (s : State) : Admission :=
  if s.seq = .idle then .accept else .refuse .busy

/-- The entry condition of MSEND: `SEQ = IDLE` and `READY = 1` (R140, R144). -/
def State.admitSend (s : State) : Admission :=
  if s.seq = .idle then
    if s.inp.ready then .accept else .refuse .usbNotReady
  else .refuse .busy

/-- The entry condition of GETREP and UNHREQ: `SEQ = IDLE` and `WRP = 0` (R160, R163, R165). -/
def State.admitRequest (s : State) : Admission :=
  if s.seq = .idle then
    if s.wrp then .hold else .accept
  else .refuse .busy

/-- The entry condition of SETREP: variant B, `SEQ = IDLE` and `WRP = 0` (R161, R80). -/
def State.admitSetReport (s : State) : Admission :=
  if s.cfg.hasSetrep then s.admitRequest else .refuse .absentInVariantA

/-- The entry condition of WRCHUNK: variant B, `SEQ = IDLE` and `WRP = 1` (R162, R80). -/
def State.admitChunk (s : State) : Admission :=
  if s.cfg.hasSetrep then
    if s.seq = .idle then
      if s.wrp then .accept else .refuse .noDeferredWrite
    else .refuse .busy
  else .refuse .absentInVariantA

/-! ### The environment's acts -/

/-- The RESET event, in any state: every register at its reset value, the operation in progress abandoned, no event
emitted (R200). The events so far stay on record in `earlier` and the stimuli to come stay (log 10). -/
def State.resetEvent (s : State) : State :=
  { State.resetOf s.cfg with earlier := s.earlier ++ s.trace, script := s.script }

/-- The environment clears `WRP` at an operation boundary; nothing else changes (R165). Inside an operation it has no
meaning (log 14). -/
def State.clearWrpEvent (s : State) : Outcome :=
  if s.seq = .idle then .next { s with wrp := false } else .refused .busy

/-- The environment's input values for the operation presented (R30, R77). -/
def State.withInputs (s : State) (inp : Inputs) : State := { s with inp := inp }

end Sys2Proof.Machine
end

