-- ==== Sys2Proof/Machine/Flags.lean ====
section
/-! DEFINITION. The conditions the block computes (spec 10_state.md R33): the compare of MSEND and the flag `FB`. No
arithmetic of the block sets a flag. -/

namespace Sys2Proof.Machine

/-- `d`: whether the two reports differ in one of their first `n` bytes (R140, R141). -/
def reportsDiffer (n : Nat) (a b : Report) : Bool :=
  (List.range n).any fun k => byteAt a k != byteAt b k

/-- The compare of MSEND: `CUR` against `LAST` over all `N` bytes (R141). -/
def State.changed (s : State) : Bool := reportsDiffer s.cfg.n s.cur s.last

/-- `FB <- not FB` (R161). -/
def State.invertFb (s : State) : State := { s with fb := !s.fb }

end Sys2Proof.Machine
end

