-- ==== Sys2Proof/Machine/HostPort.lean ====
section
/-! DEFINITION. The host port: GETREP, SETREP, WRCHUNK and UNHREQ (spec 43_host_port.md). -/

namespace Sys2Proof.Machine

/-- `emit Response(kind, len)` (R78). -/
def State.respond (s : State) (k : ResponseKind) (len : Option Nat) : State := s.emit (.response k len)

/-- The body of GETREP (R160): the `N` bytes of `LAST` are exposed. -/
def State.exposeLast (s : State) : State :=
  let bytes := memRead s.last 0 s.cfg.n
  ((s.emit (.setResponsePointer bytes s.cfg.n)).respond .handled (some s.cfg.n)).complete (.handled bytes)

/-- GETREP (R160). -/
def execGetrep (s : State) : Outcome := s.admitted s.admitRequest s.exposeLast

/-- The body of SETREP (R161): `FB` inverted, `WRP` set, the payload announced for later. -/
def State.deferWrite (s : State) : State :=
  (({ s.invertFb with wrp := true }.emit .setDeferredWrite).respond .deferredWrite none).complete .deferredWrite

/-- SETREP (R161). -/
def execSetrep (s : State) : Outcome := s.admitted s.admitSetReport s.deferWrite

/-- The body of WRCHUNK (R162): the chunk is not read; `WRP` is cleared and the write reported complete. -/
def State.finishWrite (s : State) : State :=
  ({ s with wrp := false }.respond .writeComplete none).complete .writeComplete

/-- WRCHUNK (R162). -/
def execWrchunk (s : State) : Outcome := s.admitted s.admitChunk s.finishWrite

/-- The body of UNHREQ (R163): the zero-length answer, and nothing else. -/
def State.answerNotHandled (s : State) : State := (s.respond .notHandled (some 0)).complete .notHandled

/-- UNHREQ (R163). -/
def execUnhreq (s : State) : Outcome := s.admitted s.admitRequest s.answerNotHandled

end Sys2Proof.Machine
end

