-- ==== Sys2Proof/Decode.lean ====
section
/-! DEFINITION. The command format CMD3 (spec 30_encoding.md R76, R80, R81): 3 bits, all of them operation
code. The decoder first, then the encoder. -/

namespace Sys2Proof

/-- The operation a code on the port names, bit by bit as the column "encoding" of the table of R76 writes it. All
eight codes are assigned (R80), so the decoder is total. -/
def decodeOp (w : OpCode) : Instr :=
  match w.getLsbD 2, w.getLsbD 1, w.getLsbD 0 with
  | false, false, false => .sample
  | false, false, true => .build
  | false, true, false => .msend
  | false, true, true => .cycle
  | true, false, false => .getrep
  | true, false, true => .setrep
  | true, true, false => .wrchunk
  | true, true, true => .unhreq

/-- Why a number of a given width is no command word. DESIGN CHOICE, safe (log 19). -/
inductive DecodeRefusal where
  /-- It has fewer than the 3 bits of CMD3 (R76). -/
  | shorterThanCmd3
  /-- It has a bit set outside `OP[2:0]`, where CMD3 has no bit (R76). -/
  | bitOutsideCmd3
deriving DecidableEq, Repr

/-- The code that the number `w` of `nbits` bits puts on the port, or why it puts none there. -/
def commandCode (nbits w : Nat) : Except DecodeRefusal OpCode :=
  if nbits < 3 then .error .shorterThanCmd3
  else if 8 ≤ w then .error .bitOutsideCmd3
  else .ok (BitVec.ofNat 3 w)

/-- The decoder on any number: the operation it names, or a refusal by name. -/
def decodeWord (nbits w : Nat) : Except DecodeRefusal Instr :=
  match commandCode nbits w with
  | .ok c => .ok (decodeOp c)
  | .error e => .error e

/-- The code of an operation, from the column "OP" of the table of R76. -/
def encode : Instr → OpCode
  | .sample => 0#3
  | .build => 1#3
  | .msend => 2#3
  | .cycle => 3#3
  | .getrep => 4#3
  | .setrep => 5#3
  | .wrchunk => 6#3
  | .unhreq => 7#3

/-- The operation the decoder reads from a word of spec/opcode_table.json of `nbits` bits; `none` where it
refuses. -/
def decodeTableWord (nbits w : Nat) : Option Instr :=
  match decodeWord nbits w with
  | .ok i => some i
  | .error _ => none

end Sys2Proof
end

