-- ==== Sys2Proof/Machine/Operands.lean ====
section
/-! DEFINITION. What an operation consumes beside the registers: the reads of `SER` and `READY`, and the classified
host request (spec 30_encoding.md R77, R79). No operation has an operand field. -/

namespace Sys2Proof.Machine

/-- `read(SER)` for bit `i`: the environment's value `s_i`, not inverted (R30, R75). -/
def State.readSer (s : State) (i : Fin 8) : Level := s.inp.ser[i]

/-- `RD(i)`: read `SER`, emit the event, write `RAW[i]` (R36, R100). -/
def State.sampleBit (s : State) (i : Fin 8) : State :=
  { s with raw := setBit s.raw i (s.readSer i) }.emit (.read .ser (s.readSer i))

/-- `RDY`: read `READY` and emit the event (R36, R145). -/
def State.sampleReady (s : State) : State := s.emit (.read .ready s.inp.ready)

/-- The operation a classified host request becomes (R79). -/
def classify (p : Params) (r : Request) : Instr :=
  if !r.classSpecific then .unhreq
  else
    match r.type with
    | .getReport => .getrep
    | .setReport => if p.hasSetrep then .setrep else .unhreq
    | .other => .unhreq

end Sys2Proof.Machine
end

