-- ==== Sys2Proof/Machine/Sampler.lean ====
section
/-! DEFINITION. The sampler: SAMPLE (spec 40_sampler.md). -/

namespace Sys2Proof.Machine

/-- `LD_LO`: the low phase of the load pulse, and `RAW` cleared (R100, R101). -/
def State.loadLow (s : State) : State := { s with raw := 0x00#8 }.setLoad false

/-- `LD_HI`: the high phase of the load pulse (R101). -/
def State.loadHigh (s : State) : State := s.setLoad true

/-- `CK_HI(i)`: the high phase of a clock pulse (R104). -/
def State.clockHigh (s : State) : State := s.setClk true

/-- `CK_LO(i)`: the low phase of a clock pulse (R104). -/
def State.clockLow (s : State) : State := s.setClk false

/-- One pass of the loop of R100: clock high, clock low, then the read (R105; log 15). -/
def State.pulse (s : State) (i : Fin 8) : State := s.clockHigh.clockLow.sampleBit i

/-- The passes of the loop in order: read `i` lands in bit `i` (R106). -/
def bitOrder : List (Fin 8) := [0, 1, 2, 3, 4, 5, 6, 7]

/-- The body of SAMPLE (R100), also the first part of BUILD and of CYCLE. -/
def State.sample (s : State) : State := bitOrder.foldl State.pulse s.loadLow.loadHigh

/-- SAMPLE (R100): the result is `RAWOUT`. -/
def execSample (s : State) : Outcome :=
  s.admitted s.admitEngine (s.sample.complete (.rawOut s.sample.raw))

end Sys2Proof.Machine
end

