-- ==== Sys2Proof/Machine/ReportBuilder.lean ====
section
/-! DEFINITION. The report builder: BUILD (spec 41_report_builder.md). -/

namespace Sys2Proof.Machine

/-- The new axis Z (R123): one step, modulo 256, if the buttons byte changed. -/
def nextZ (zStep prevBtn prevZ r : Byte) : Byte := if r ≠ prevBtn then prevZ + zStep else prevZ

/-- The buttons byte of variant A (R122, and R126 where `A_BTN_ZERO` is true). -/
def buttonsA (aBtnZero : Bool) (r : Byte) : Byte := if aBtnZero then 0x00#8 else r

/-- The report BUILD composes from the previous one and the sample `r`, in offset order (R120, R128). -/
def buildReport (p : Params) (prev : Report) (r : Byte) : Report :=
  match p.variant with
  | .A => ((prev.set 0 p.axisX).set 1 p.axisY).set 2 (buttonsA p.aBtnZero r)
  | .B =>
    (((prev.set 0 p.axisX).set 1 p.axisY).set 2 (nextZ p.zStep (byteAt prev 3) (byteAt prev 2) r)).set 3 r

/-- `BLD`: write every byte of `CUR` from `prev = CUR` and the sample in `RAW` (R120, R124). -/
def State.writeCur (s : State) : State := { s with cur := buildReport s.cfg s.cur s.raw }

/-- BUILD (R120). -/
def execBuild (s : State) : Outcome := s.admitted s.admitEngine (s.sample.writeCur.complete .none)

end Sys2Proof.Machine
end

