-- ==== Sys2Proof/Machine/Transmitter.lean ====
section
/-! DEFINITION. The change detector and transmitter: MSEND and CYCLE (spec 42_change_detector_transmitter.md). -/

namespace Sys2Proof.Machine

/-- `CPY`: copy the `N` bytes of `CUR` into `LAST` (R140). -/
def State.copyToLast (s : State) : State :=
  { s with last := memWrite s.last 0 (memRead s.cur 0 s.cfg.n) }

/-- `TX`: hand the `N` bytes of `LAST` to the USB layer (R140, R142). -/
def State.transmit (s : State) : State := s.emit (.sendInterrupt (memRead s.last 0 s.cfg.n) s.cfg.n)

/-- `LED`: invert the status LED if `FB = 1` (R143). -/
def State.toggleLed (s : State) : State := if s.fb then s.setLedSt (!s.ledSt) else s

/-- The body of MSEND (R140), also the last part of CYCLE: copy, then send, then LED, and `SENT`. -/
def State.maybeSend (s : State) : State :=
  if s.changed then s.copyToLast.transmit.toggleLed.complete (.sent true) else s.complete (.sent false)

/-- MSEND (R140): refused unless the environment's `READY` is 1 (R144). -/
def execMsend (s : State) : Outcome := s.admitted s.admitSend s.maybeSend

/-- The body of CYCLE (R145): read `READY` once, and if it is 1 build and maybe send. -/
def State.cycleBody (s : State) : State :=
  if s.inp.ready then s.sampleReady.sample.writeCur.maybeSend else s.sampleReady.complete (.sent false)

/-- CYCLE (R145). -/
def execCycle (s : State) : Outcome := s.admitted s.admitEngine s.cycleBody

end Sys2Proof.Machine
end

