-- ==== Sys2Proof/Machine/Dispatch.lean ====
section
/-! DEFINITION. The meaning of each operation of the command port (spec 30_encoding.md R76). -/

namespace Sys2Proof.Machine

def exec (i : Instr) (s : State) : Host.Outcome State Fault Refusal :=
  match i with
  | .sample => Sys2Proof.Machine.execSample s
  | .build => Sys2Proof.Machine.execBuild s
  | .msend => Sys2Proof.Machine.execMsend s
  | .cycle => Sys2Proof.Machine.execCycle s
  | .getrep => Sys2Proof.Machine.execGetrep s
  | .setrep => Sys2Proof.Machine.execSetrep s
  | .wrchunk => Sys2Proof.Machine.execWrchunk s
  | .unhreq => Sys2Proof.Machine.execUnhreq s

end Sys2Proof.Machine
end

