-- ==== Sys2Proof/Machine/Sequencer.lean ====
section
/-! DEFINITION. The sequencer (spec 10_state.md R36): an operation accepted on the port and taken micro-step by
micro-step, which is what lets a reset or an observer fall between two line events (R28, R200; log 8). -/

namespace Sys2Proof.Machine

/-- `SEQ <- q`. -/
def State.goto (s : State) (q : SeqState) : State := { s with seq := q }

/-- The operation is accepted: it is in progress and `SEQ` is its first micro-step (R36). -/
def State.enter (s : State) (i : Instr) (q : SeqState) : State := { s with op := some i, seq := q }

/-- The operation `i` presented to be taken micro-step by micro-step. The host operations have one micro-step each (R36),
so that micro-step is the whole of them. -/
def startOp (i : Instr) (s : State) : Outcome :=
  match i with
  | .sample => s.admitted s.admitEngine (s.enter .sample .ldLo)
  | .build => s.admitted s.admitEngine (s.enter .build .ldLo)
  | .msend => s.admitted s.admitSend (s.enter .msend .cmp)
  | .cycle => s.admitted s.admitEngine (s.enter .cycle .rdy)
  | .getrep => execGetrep s
  | .setrep => execSetrep s
  | .wrchunk => execWrchunk s
  | .unhreq => execUnhreq s

/-- Where the sequencer goes after the eighth read (row `RD(i)` of R36). The other operations have no `RD`; there the
operation ends (log 9). -/
def State.afterSample (s : State) : State :=
  match s.op with
  | some .sample => s.complete (.rawOut s.raw)
  | some .build => s.goto .bld
  | some .cycle => s.goto .bld
  | some .msend | some .getrep | some .setrep | some .wrchunk | some .unhreq | none => s.complete .none

/-- Where the sequencer goes after `CUR` is written (row `BLD` of R36). -/
def State.afterBuild (s : State) : State :=
  match s.op with
  | some .cycle => s.goto .cmp
  | some .build | some .sample | some .msend | some .getrep | some .setrep | some .wrchunk | some .unhreq | none =>
    s.complete .none

/-- Row `RD(i)` of R36: the read, then the next pulse or the end of the sample. -/
def State.readStep (s : State) (i : Fin 8) : State :=
  if h : i.val < 7 then (s.sampleBit i).goto (.ckHi ⟨i.val + 1, by omega⟩) else (s.sampleBit i).afterSample

/-- One micro-step: the row of R36 that `SEQ` names. An idle block waits (R201). -/
def State.microStep (s : State) : State :=
  match s.seq with
  | .idle => s
  | .rdy => if s.inp.ready then s.sampleReady.goto .ldLo else s.sampleReady.complete (.sent false)
  | .ldLo => s.loadLow.goto .ldHi
  | .ldHi => s.loadHigh.goto (.ckHi 0)
  | .ckHi i => s.clockHigh.goto (.ckLo i)
  | .ckLo i => s.clockLow.goto (.rd i)
  | .rd i => s.readStep i
  | .bld => s.writeCur.afterBuild
  | .cmp => if s.changed then s.goto .cpy else s.complete (.sent false)
  | .cpy => s.copyToLast.goto .tx
  | .tx => s.transmit.goto .led
  | .led => s.toggleLed.complete (.sent true)

/-- `k` micro-steps. -/
def State.microSteps : Nat → State → State
  | 0, s => s
  | k + 1, s => State.microSteps k s.microStep

end Sys2Proof.Machine
end

