-- ==== Sys2Proof/Machine/Environment.lean ====
section
/-! DEFINITION. What the issuers and the environment do to the block: one stimulus (spec 60_exceptions.md R183, R191;
43_host_port.md R165, R166; 70_reset_and_hazards.md R200). -/

namespace Sys2Proof.Machine

/-- One stimulus acts on the block. An operation is decoded from its code on the port and given its input values. -/
def stimulate (x : Stimulus) (s : State) : Outcome :=
  match x with
  | .op code inp => exec (decodeOp code) (s.withInputs inp)
  | .start code inp => startOp (decodeOp code) (s.withInputs inp)
  | .hostreq req inp => exec (classify s.cfg req) (s.withInputs inp)
  | .tick => .next s.microStep
  | .clearWrp => s.clearWrpEvent
  | .reset => .next s.resetEvent

/-- The code that a table word puts on the port; a number that is no command word leaves its low bits there. -/
def portCode (nbits w : Nat) : OpCode :=
  match commandCode nbits w with
  | .ok c => c
  | .error _ => BitVec.ofNat 3 w

/-- The inputs with which a word placed on the port is presented: the levels at the input ports stay, but that `READY` is
1, the precondition with which a driver issues MSEND (R144, R205; log 6). -/
def presentedInputs (s : State) : Inputs := { s.inp with ready := true }

/-- A command word is put on the port as the next stimulus. -/
def State.present (s : State) (code : OpCode) (inp : Inputs) : State :=
  { s with script := .op code inp :: s.script }

end Sys2Proof.Machine
end

