-- ==== Sys2Proof/Machine/Step.lean ====
section
/-! DEFINITION. One step of the machine: the next stimulus acts, or, with none to come, nothing is presented. -/

namespace Sys2Proof.Machine

/-- One step. With no stimulus to come the step is a tick: the sequencer goes on, or the idle block waits (R201; log 21). -/
def step (s : State) : Host.Outcome State Fault Refusal :=
  match s.script with
  | [] => .next s.microStep
  | x :: rest => stimulate x { s with script := rest }

/-- `s` with the word `w` of the opcode table presented on the command port, so that the next step runs it (logs 5 and 6). -/
def State.withFetchWord (s : State) (nbits w : Nat) : State :=
  s.present (portCode nbits w) (presentedInputs s)

end Sys2Proof.Machine
end

