-- ==== Sys2Proof/Safety.lean ====
section
/-! DEFINITION. The terms in which claims about the block are stated: what a sample assembles to, which events it
gives, which reports have been sent, and the invariants of spec 10_state.md R37 to R39. -/

namespace Sys2Proof.Machine

/-! ### The sample, as R74 and R100 write it -/

/-- `BTN = s_7 s_6 … s_0`, the eight reads with `s_7` most significant (R74). -/
def serByte (v : Vector Level 8) : Byte :=
  BitVec.ofBool v[7] ++ BitVec.ofBool v[6] ++ BitVec.ofBool v[5] ++ BitVec.ofBool v[4] ++
    BitVec.ofBool v[3] ++ BitVec.ofBool v[2] ++ BitVec.ofBool v[1] ++ BitVec.ofBool v[0]

/-- The three events of bit `i` (R100). -/
def bitEvents (v : Vector Level 8) (i : Fin 8) : List Event :=
  [.set .clk true, .set .clk false, .read .ser v[i]]

/-- The events of one SAMPLE in order: two of the load line, then eight groups of three (R100). -/
def sampleEvents (v : Vector Level 8) : List Event :=
  [.set .load false, .set .load true] ++ (List.finRange 8).flatMap (bitEvents v)

/-! ### Reports -/

/-- Both report registers hold exactly `N` bytes (R21, R22). -/
abbrev State.reportsWf (s : State) : Prop := s.cur.wf s.cfg = true ∧ s.last.wf s.cfg = true

/-- The payload of an event that hands a report to the USB layer for transmission (R13). -/
def Event.sentReport : Event → Option Report
  | .sendInterrupt bytes _ => some bytes
  | .set _ _ => none
  | .read _ _ => none
  | .setResponsePointer _ _ => none
  | .setDeferredWrite => none
  | .response _ _ => none

/-- The payloads of the sends of an event list, oldest first. -/
def sentReports (es : List Event) : List Report := es.filterMap Event.sentReport

/-- The report most recently sent since the last reset, or the reset value if none was (R37, C7). -/
def State.mostRecentlySent (s : State) : Report :=
  (sentReports s.trace).getLast?.getD (List.replicate s.cfg.n 0x00#8)

/-- Both report registers hold the value of R35, `N` bytes 0x00 (the spec's decision D5, log 4). -/
abbrev State.reportsAtReset (s : State) : Prop :=
  s.cur = List.replicate s.cfg.n 0x00#8 ∧ s.last = List.replicate s.cfg.n 0x00#8

/-- A settled state: `CUR` has the axis constants and `LAST = CUR` (R129). -/
abbrev State.settled (s : State) : Prop :=
  s.reportsWf ∧ byteAt s.cur 0 = s.cfg.axisX ∧ byteAt s.cur 1 = s.cfg.axisY ∧ s.last = s.cur

/-- In variant A with `A_BTN_ZERO` the buttons byte is 0x00, as it is after every BUILD there (R126, R129). -/
abbrev State.buttonsForced (s : State) : Prop :=
  s.cfg.variant = .A → s.cfg.aBtnZero = true → byteAt s.cur 2 = 0x00#8

/-! ### Lines (R39) -/

/-- The level of `CLK` when the micro-step `q` is next (R36). -/
def SeqState.clkLevel : SeqState → Level
  | .ckLo _ => true
  | .idle | .rdy | .ldLo | .ldHi | .ckHi _ | .rd _ | .bld | .cmp | .cpy | .tx | .led => false

/-- The level of `LOAD` when the micro-step `q` is next (R36). -/
def SeqState.loadLevel : SeqState → Level
  | .ldHi => false
  | .idle | .rdy | .ldLo | .ckHi _ | .ckLo _ | .rd _ | .bld | .cmp | .cpy | .tx | .led => true

/-- The idle levels of the two lines of the sampler (R39, R82). -/
abbrev State.linesIdle (s : State) : Prop := s.clk = false ∧ s.load = true

/-! ### The invariant of every step -/

/-- The operations that go through the micro-step `q` (R36): `none` stands for no operation in progress. -/
def SeqState.belongsTo : SeqState → Option Instr → Bool
  | .idle, o => o == none
  | .rdy, o => o == some .cycle
  | .ldLo, o | .ldHi, o | .ckHi _, o | .ckLo _, o | .rd _, o => o == some .sample || o == some .build || o == some .cycle
  | .bld, o => o == some .build || o == some .cycle
  | .cmp, o | .cpy, o | .tx, o | .led, o => o == some .msend || o == some .cycle

/-- The lines have the levels that go with the next micro-step (R36, R39). -/
abbrev State.linesMatch (s : State) : Prop := s.clk = s.seq.clkLevel ∧ s.load = s.seq.loadLevel

/-- `LAST` is what was sent last, or its reset value before any send (R37). DEDUCED (log 20): between the copy and the
send, which the micro-steps separate, it is the report about to be sent. -/
abbrev State.lastIsSent (s : State) : Prop :=
  if s.seq = .tx then s.last = s.cur else s.last = s.mostRecentlySent

/-- A compare has found the reports different and the copy comes next (R36). -/
abbrev State.copyJustified (s : State) : Prop := s.seq = .cpy → s.cur ≠ s.last

/-- Variant A has no SETREP: its flag and `WRP` keep 0 and its LED never moves (R23, R29, R164, R203). -/
abbrev State.variantAStill (s : State) : Prop :=
  s.cfg.variant = .A → s.fb = false ∧ s.wrp = false ∧ s.ledSt = s.cfg.ledStReset

/-- The invariant that every step keeps. -/
def State.Inv (s : State) : Prop :=
  s.reportsWf ∧ s.linesMatch ∧ s.seq.belongsTo s.op = true ∧ s.lastIsSent ∧ s.copyJustified ∧ s.variantAStill

/-! ### Runs -/

/-- The stimuli of the Main Loop Driver's runs (R191): host operations, CYCLE, and the environment's acts; not SAMPLE,
BUILD or MSEND issued alone, nor an operation taken micro-step by micro-step. -/
def isDriverStimulus : Stimulus → Bool
  | .op code _ => decodeOp code == .cycle || (decodeOp code).port == .host
  | .start _ _ => false
  | .hostreq _ _ => true
  | .tick => true
  | .clearWrp => true
  | .reset => true

/-- The stimuli after which a run from reset has not yet built a report: every one taken at once, but BUILD and a CYCLE that
finds `READY = 1` (R147, R203). -/
def leavesReports : Stimulus → Bool
  | .op code inp =>
    match decodeOp code with
    | .cycle => !inp.ready
    | .build => false
    | .sample | .msend | .getrep | .setrep | .wrchunk | .unhreq => true
  | .start _ _ => false
  | .hostreq _ _ => true
  | .tick => true
  | .clearWrp => true
  | .reset => true

/-- The stimulus that presents the operation `i` by its code, to be taken as one transition. -/
def issue (i : Instr) (inp : Inputs) : Stimulus := .op (encode i) inp

/-- `k` steps of the machine, stopping at the first refusal. -/
def runSteps (k : Nat) (s : State) : Outcome := Sys2Proof.core.run k s

/-- The operations of a program one after the other, each with its own input values, with no port and no code between. -/
def execAll : List (Instr × Inputs) → State → Outcome
  | [], s => .next s
  | (i, inp) :: rest, s =>
    match exec i (s.withInputs inp) with
    | .next t => execAll rest t
    | .fault r => .fault r
    | .refused r => .refused r

/-- How often a sequence of buttons bytes changes, from `b` on (R123: one step per change, however many bits). -/
def changeCount : Byte → List Byte → Nat
  | _, [] => 0
  | b, r :: rs => (if r ≠ b then 1 else 0) + changeCount r rs

/-- The accepted SET_REPORT requests of an event list, one `SetDeferredWrite` each (R161). -/
def acceptedSetReports (es : List Event) : Nat := es.count .setDeferredWrite

end Sys2Proof.Machine
end

