-- ==== Sys2Proof/Certificates/Slice0/Obligations.lean ====
section
/-! DEFINITION. The statements for the provers, from the numbered rules of spec/. Every one of them is for all
parameters, for all values of `SER` and `READY`, and, where it does not name a premise, for all states. -/

open Sys2Proof Sys2Proof.Machine

/-! ### The command port -/

/-- The table of R76: each code, as a word of the opcode table, names its operation. -/
def Obligations.CodesNameTheirOperations : Prop :=
  decodeTableWord 8 0b000 = some .sample ∧ decodeTableWord 8 0b001 = some .build ∧
  decodeTableWord 8 0b010 = some .msend ∧ decodeTableWord 8 0b011 = some .cycle ∧
  decodeTableWord 8 0b100 = some .getrep ∧ decodeTableWord 8 0b101 = some .setrep ∧
  decodeTableWord 8 0b110 = some .wrchunk ∧ decodeTableWord 8 0b111 = some .unhreq

/-- All eight codes are assigned, each to one operation (R76, R80). -/
def Obligations.CodesAndOperationsCorrespond : Prop :=
  (∀ i : Instr, decodeOp (encode i) = i) ∧ (∀ w : OpCode, encode (decodeOp w) = w)

/-- A number is a command word exactly when it has the 3 bits of CMD3 and no other. The refusals are the model's choice,
log 19; the format is R76's. -/
def Obligations.OnlyThreeBitWordsAreCommands : Prop :=
  ∀ nbits w : Nat,
    (nbits < 3 → decodeWord nbits w = .error .shorterThanCmd3) ∧
    (3 ≤ nbits → 8 ≤ w → decodeWord nbits w = .error .bitOutsideCmd3) ∧
    (3 ≤ nbits → w < 8 → ∃ i, decodeWord nbits w = .ok i ∧ (encode i).toNat = w)

/-- A step whose next stimulus presents a code runs the operation the code names, on the state with the stimulus taken and
its input values on the ports; the step adds nothing else. -/
def Obligations.StepRunsThePresentedOperation : Prop :=
  ∀ (s : State) (code : OpCode) (inp : Inputs) (rest : List Stimulus),
    s.script = .op code inp :: rest →
    step s = exec (decodeOp code) { s with script := rest, inp := inp }

/-- A word of the opcode table placed on the port is what the next step runs, with `READY` at 1 (the model's choice,
log 6). -/
def Obligations.PlacedWordRunsNext : Prop :=
  ∀ (s : State) (nbits w : Nat) (i : Instr), decodeTableWord nbits w = some i →
    step (s.withFetchWord nbits w) = exec i { s with inp := { s.inp with ready := true } }

/-- A program placed on the port by its codes runs as its operations one after the other: no code is lost or misread over
a whole run. -/
def Obligations.EncodedProgramRunsAsItsOperations : Prop :=
  ∀ (prog : List (Instr × Inputs)) (s : State) (rest : List Stimulus),
    runSteps prog.length { s with script := prog.map (fun x => issue x.1 x.2) ++ rest } =
      execAll prog { s with script := rest }

/-- HOSTREQ expands as R79 says. -/
def Obligations.HostRequestIsClassified : Prop :=
  ∀ (s : State) (req : Request) (inp : Inputs) (rest : List Stimulus),
    s.script = .hostreq req inp :: rest →
    step s = exec
      (if req.classSpecific = false then .unhreq
       else if req.type = .getReport then .getrep
       else if req.type = .setReport ∧ s.cfg.hasSetrep = true then .setrep
       else .unhreq)
      { s with script := rest, inp := inp }

/-! ### The sampler -/

/-- SAMPLE (R100): code 000; from an idle state it completes, the result is `s_7 … s_0`, the 26 events come in order, and
no other register changes. -/
def Obligations.SampleReadsEightBits : Prop :=
  decodeOp 0b000#3 = .sample ∧
  ∀ s : State, s.seq = .idle →
    exec .sample s = .next { s with
      raw := serByte s.inp.ser
      clk := false
      load := true
      seq := .idle
      op := none
      result := .rawOut (serByte s.inp.ser)
      trace := s.trace ++ sampleEvents s.inp.ser } ∧
    (sampleEvents s.inp.ser).length = 26

/-- Read `i` lands in bit `i`, uninverted, whatever `RAW` held before (R106, R107). -/
def Obligations.ReadLandsInItsBit : Prop :=
  ∀ s : State, s.seq = .idle →
    ∃ t, exec .sample s = .next t ∧ t.result = .rawOut t.raw ∧
      ∀ i : Fin 8, t.raw.getLsbD i.val = s.inp.ser[i]

/-- SAMPLE is idempotent on the block's own state and touches no line but the sampler's (R110; the idle lines are R39's). -/
def Obligations.SampleLeavesIdleStateAsItWas : Prop :=
  ∀ s : State, s.seq = .idle → s.linesIdle →
    ∃ t es, exec .sample s = .next t ∧ t.trace = s.trace ++ es ∧
      (∀ e ∈ es, (∃ v, e = .set .clk v) ∨ (∃ v, e = .set .load v) ∨ (∃ v, e = .read .ser v)) ∧
      t.cur = s.cur ∧ t.last = s.last ∧ t.fb = s.fb ∧ t.ledSt = s.ledSt ∧ t.wrp = s.wrp ∧
      t.clk = s.clk ∧ t.load = s.load ∧ t.seq = s.seq

/-! ### The report builder -/

/-- BUILD (R120), both variants: code 001; from an idle state with reports of `N` bytes it completes, every byte of `CUR` is
as the pseudocode says, the events are SAMPLE's, and no other register changes. -/
def Obligations.BuildComposesTheReport : Prop :=
  decodeOp 0b001#3 = .build ∧
  ∀ s : State, s.seq = .idle → s.reportsWf →
    exec .build s = .next { s with
      cur :=
        match s.cfg.variant with
        | .A => [s.cfg.axisX, s.cfg.axisY, if s.cfg.aBtnZero then 0x00#8 else serByte s.inp.ser]
        | .B => [s.cfg.axisX, s.cfg.axisY,
            if serByte s.inp.ser ≠ byteAt s.cur 3 then
              BitVec.ofNat 8 (((byteAt s.cur 2).toNat + s.cfg.zStep.toNat) % 256)
            else byteAt s.cur 2,
            serByte s.inp.ser]
      raw := serByte s.inp.ser
      clk := false
      load := true
      seq := .idle
      op := none
      result := .none
      trace := s.trace ++ sampleEvents s.inp.ser }

/-- The buttons byte is the sample, bit for bit, whatever the axes are (R122; not in variant A with `A_BTN_ZERO`, R126). -/
def Obligations.ButtonsByteIsTheSample : Prop :=
  ∀ s : State, s.seq = .idle → s.reportsWf → s.cfg.buttonsSampled = true →
    ∃ t, exec .build s = .next t ∧
      ∀ i : Fin 8, (byteAt t.cur s.cfg.btnOff).getLsbD i.val = s.inp.ser[i]

/-- Axis Z moves by one step per change of the buttons byte over any sequence of BUILDs, and `LAST` stays (R123, S3). -/
def Obligations.AxisZCountsChanges : Prop :=
  ∀ (s : State) (inps : List Inputs),
    s.seq = .idle → s.reportsWf → s.cfg.variant = .B → s.script = inps.map (issue .build) →
    ∃ t, runSteps inps.length s = .next t ∧ t.last = s.last ∧
      byteAt t.cur 2 = BitVec.ofNat 8 ((byteAt s.cur 2).toNat +
        s.cfg.zStep.toNat * changeCount (byteAt s.cur 3) (inps.map fun inp => serByte inp.ser))

/-- The new `CUR` is a function of the old `CUR`, the eight values of `SER` and the parameters alone (R127). -/
def Obligations.BuildDependsOnCurAndReadsOnly : Prop :=
  ∀ s u : State, s.seq = .idle → u.seq = .idle →
    s.cfg = u.cfg → s.cur = u.cur → s.inp.ser = u.inp.ser →
    ∃ t v, exec .build s = .next t ∧ exec .build u = .next v ∧ t.cur = v.cur

/-- From a settled state a BUILD with an unchanged sample leaves `CUR`; with forced buttons every BUILD does (R129). The
premise `buttonsForced`, the parenthesis of R129 made exact, is the model's reading (log 25). -/
def Obligations.BuildKeepsASettledReport : Prop :=
  ∀ s : State, s.seq = .idle → s.settled → s.buttonsForced →
    (s.cfg.buttonsSampled = true → serByte s.inp.ser = byteAt s.cur s.cfg.btnOff →
      ∃ t, exec .build s = .next t ∧ t.cur = s.cur) ∧
    (s.cfg.buttonsSampled = false → ∃ t, exec .build s = .next t ∧ t.cur = s.cur)

/-- Every BUILD writes the axis constants, and no operation changes them once they stand (R121). -/
def Obligations.AxisBytesStayConstant : Prop :=
  (∀ s t : State, s.reportsWf → exec .build s = .next t →
    byteAt t.cur 0 = s.cfg.axisX ∧ byteAt t.cur 1 = s.cfg.axisY) ∧
  (∀ (i : Instr) (s t : State), s.reportsWf → byteAt s.cur 0 = s.cfg.axisX → byteAt s.cur 1 = s.cfg.axisY →
    exec i s = .next t → byteAt t.cur 0 = t.cfg.axisX ∧ byteAt t.cur 1 = t.cfg.axisY)

/-! ### The change detector and transmitter -/

/-- MSEND (R140): code 010; idle and ready it completes: different reports are copied, sent, and the LED toggled if `FB = 1`,
in that order; equal ones do nothing; nothing else changes. -/
def Obligations.MsendSendsADifference : Prop :=
  decodeOp 0b010#3 = .msend ∧
  ∀ s : State, s.seq = .idle → s.inp.ready = true → s.reportsWf →
    exec .msend s =
      if s.cur = s.last then .next { s with seq := .idle, op := none, result := .sent false }
      else .next { s with
        last := s.cur
        ledSt := if s.fb then !s.ledSt else s.ledSt
        seq := .idle
        op := none
        result := .sent true
        trace := s.trace ++ [.sendInterrupt s.cur s.cfg.n] ++ (if s.fb then [.set .ledSt (!s.ledSt)] else []) }

/-- The compare is exact over all `N` bytes: `SENT` is 1 if and only if some byte pair differs (R141). -/
def Obligations.CompareIsByteForByte : Prop :=
  ∀ s : State, s.seq = .idle → s.inp.ready = true → s.reportsWf →
    ∃ t b, exec .msend s = .next t ∧ t.result = .sent b ∧
      (b = true ↔ ∃ k, k < s.cfg.n ∧ byteAt s.cur k ≠ byteAt s.last k)

/-- MSEND while `READY` is 0 has no meaning and is refused (R144). -/
def Obligations.MsendNeedsReady : Prop :=
  ∀ s : State, s.seq = .idle → s.inp.ready = false → exec .msend s = .refused .usbNotReady

/-- A second MSEND writes nothing, emits nothing and returns `SENT = 0` (R146). -/
def Obligations.MsendIsIdempotent : Prop :=
  ∀ s : State, s.seq = .idle → s.inp.ready = true → s.reportsWf →
    ∃ t, exec .msend s = .next t ∧ exec .msend t = .next { t with result := .sent false }

/-- CYCLE (R145): code 011; not ready it reads `READY` and nothing else; ready it is the read of `READY`, then BUILD, then
MSEND. -/
def Obligations.CycleIsReadyThenBuildThenSend : Prop :=
  decodeOp 0b011#3 = .cycle ∧
  ∀ s : State, s.seq = .idle →
    (s.inp.ready = false → exec .cycle s = .next { s with
      seq := .idle
      op := none
      result := .sent false
      trace := s.trace ++ [.read .ready false] }) ∧
    (s.inp.ready = true → ∃ u t,
      exec .build { s with trace := s.trace ++ [.read .ready true] } = .next u ∧
      exec .msend u = .next t ∧ exec .cycle s = .next t)

/-- After MSEND, and after a CYCLE that found `READY = 1`, `CUR = LAST` (R38). -/
def Obligations.SendLeavesReportsEqual : Prop :=
  ∀ (i : Instr) (s : State), (i = .msend ∨ i = .cycle) → s.seq = .idle → s.inp.ready = true → s.reportsWf →
    ∃ t, exec i s = .next t ∧ t.cur = t.last

/-- Wherever the Main Loop Driver's order of operations is kept, `CUR = LAST` at every operation boundary (R38, R191). -/
def Obligations.DriverRunKeepsReportsEqual : Prop :=
  ∀ (s t : State) (k : Nat),
    s.reportsWf → s.seq = .idle → s.cur = s.last → s.script.all isDriverStimulus = true →
    runSteps k s = .next t → t.cur = t.last ∧ t.seq = .idle

/-- The events of a CYCLE: 1 when not ready, 27 with nothing to send, 28 for a send, 29 for a send with the LED; at most one
of them is a send, exactly when `SENT = 1` (R145, R215, the counts after V30). -/
def Obligations.CycleSendsAtMostOnce : Prop :=
  ∀ s : State, s.seq = .idle → s.reportsWf →
    ∃ t es b, exec .cycle s = .next t ∧ t.trace = s.trace ++ es ∧ t.result = .sent b ∧
      (b = true → s.inp.ready = true) ∧
      sentReports es = (if b then [t.cur] else []) ∧
      es.length = (if s.inp.ready = false then 1 else if b = false then 27 else if s.fb = false then 28 else 29)

/-- The first ready CYCLE after reset sends, unless both axis constants are 0, whatever the sample; Z is one step if the first
sample is not 0 (R147, R125 a, R203). It is about every idle state whose `CUR` and `LAST` are still `N` bytes 0x00, whatever
`FB`, `WRP`, `LED_ST` and the events so far are; UntilTheFirstReadyCycleReportsAreAtReset says that a run from reset is in
such a state until then. That the reports are 0x00 at reset is the spec's own decision D5, no statement of the source (log 4). -/
def Obligations.FirstReadyCycleSends : Prop :=
  ∀ s : State, s.seq = .idle → s.reportsAtReset → s.inp.ready = true →
    (s.cfg.axisX ≠ 0x00#8 ∨ s.cfg.axisY ≠ 0x00#8) →
    ∃ t es, exec .cycle s = .next t ∧ t.trace = s.trace ++ es ∧
      t.result = .sent true ∧ sentReports es = [t.cur] ∧ t.last = t.cur ∧
      byteAt t.cur 0 = s.cfg.axisX ∧ byteAt t.cur 1 = s.cfg.axisY ∧
      (s.cfg.variant = .B → byteAt t.cur 2 = if serByte s.inp.ser = 0x00#8 then 0x00#8 else s.cfg.zStep)

/-- From an idle state whose reports are at their reset value, right after reset for one (D5, log 4), a run of CYCLEs that find
`READY = 0`, SAMPLEs, MSENDs, host operations and the environment's acts keeps both reports there and the block idle, so
that the next ready CYCLE is the first (R147, R203; V30, P5). No report is sent on the way. -/
def Obligations.UntilTheFirstReadyCycleReportsAreAtReset : Prop :=
  ∀ (s t : State) (k : Nat),
    s.seq = .idle → s.reportsAtReset → s.script.all leavesReports = true → runSteps k s = .next t →
    t.seq = .idle ∧ t.reportsAtReset ∧ (sentReports s.trace = [] → sentReports t.trace = [])

/-- No change, no send (R148, scenario C): from a settled state any number of CYCLEs with the sample equal to the buttons
byte, each with any `READY`, sends nothing, changes no register but in passing, and answers `SENT = 0`. The premises are
R129's and R39's; `buttonsForced`, without which R148 fails in a state that no run reaches, is the model's reading (log 25). -/
def Obligations.NoChangeNoSend : Prop :=
  ∀ (s : State) (inps : List Inputs),
    s.seq = .idle → s.settled → s.buttonsForced → s.linesIdle →
    (∀ inp ∈ inps, serByte inp.ser = byteAt s.cur s.cfg.btnOff) →
    s.script = inps.map (issue .cycle) →
    ∃ t es, runSteps inps.length s = .next t ∧ t.trace = s.trace ++ es ∧ sentReports es = [] ∧
      t.cur = s.cur ∧ t.last = s.last ∧ t.fb = s.fb ∧ t.ledSt = s.ledSt ∧ t.wrp = s.wrp ∧
      t.clk = s.clk ∧ t.load = s.load ∧ t.seq = s.seq ∧
      (inps ≠ [] → t.result = .sent false)

/-- A change of the buttons seen by a ready CYCLE is sent in that CYCLE, with Z one step on in variant B (R149). -/
def Obligations.ChangeIsSentInItsCycle : Prop :=
  ∀ s : State, s.seq = .idle → s.inp.ready = true → s.reportsWf → s.cur = s.last →
    s.cfg.buttonsSampled = true → serByte s.inp.ser ≠ byteAt s.cur s.cfg.btnOff →
    ∃ t es, exec .cycle s = .next t ∧ t.trace = s.trace ++ es ∧ t.result = .sent true ∧
      sentReports es = [t.cur] ∧ byteAt t.cur s.cfg.btnOff = serByte s.inp.ser ∧
      (s.cfg.variant = .B → byteAt t.cur 2 = byteAt s.cur 2 + s.cfg.zStep)

/-- Over any run of engine operations the LED has been inverted once per send if `FB = 1`, and not at all if `FB = 0`
(R143, R168). -/
def Obligations.LedTogglesOncePerSend : Prop :=
  ∀ (prog : List (Instr × Inputs)) (s t : State),
    (∀ x ∈ prog, x.1.port = .engine) → s.reportsWf → execAll prog s = .next t →
    ∃ es, t.trace = s.trace ++ es ∧ t.fb = s.fb ∧
      t.ledSt = (s.ledSt ^^ (s.fb && decide ((sentReports es).length % 2 = 1)))

/-! ### The host port -/

/-- GETREP (R160): code 100; idle with `WRP = 0` it answers the `N` bytes of `LAST`, never `CUR`, and changes no register. -/
def Obligations.GetrepExposesLast : Prop :=
  decodeOp 0b100#3 = .getrep ∧
  ∀ s : State, s.seq = .idle → s.wrp = false → s.reportsWf →
    exec .getrep s = .next { s with
      seq := .idle
      op := none
      result := .handled s.last
      trace := s.trace ++ [.setResponsePointer s.last s.cfg.n, .response .handled (some s.cfg.n)] }

/-- SETREP (R161): code 101; in variant B, idle with `WRP = 0`, it inverts `FB`, sets `WRP`, moves no LED and reads no payload.
Variant A has none and refuses it (R80); that it does so under this name on a busy block too is the model's choice (log 13). -/
def Obligations.SetrepInvertsTheFlag : Prop :=
  decodeOp 0b101#3 = .setrep ∧
  ∀ s : State,
    (s.cfg.variant = .B → s.seq = .idle → s.wrp = false →
      exec .setrep s = .next { s with
        fb := !s.fb
        wrp := true
        seq := .idle
        op := none
        result := .deferredWrite
        trace := s.trace ++ [.setDeferredWrite, .response .deferredWrite none] }) ∧
    (s.cfg.variant = .A → exec .setrep s = .refused .absentInVariantA)

/-- WRCHUNK (R162): code 110; in variant B, idle with `WRP = 1`, it clears `WRP` and reports completion whatever the chunk is;
with `WRP = 0` it is refused (R162 b), and in variant A too (R80). The names of the refusals, and that variant A's stands on a
busy block as well, are the model's choice (log 13). -/
def Obligations.WrchunkCompletesTheWrite : Prop :=
  decodeOp 0b110#3 = .wrchunk ∧
  ∀ s : State,
    (s.cfg.variant = .B → s.seq = .idle → s.wrp = true →
      exec .wrchunk s = .next { s with
        wrp := false
        seq := .idle
        op := none
        result := .writeComplete
        trace := s.trace ++ [.response .writeComplete none] }) ∧
    (s.cfg.variant = .B → s.seq = .idle → s.wrp = false → exec .wrchunk s = .refused .noDeferredWrite) ∧
    (s.cfg.variant = .A → exec .wrchunk s = .refused .absentInVariantA)

/-- UNHREQ (R163): code 111; idle with `WRP = 0` it gives the zero-length answer and changes no register. -/
def Obligations.UnhreqAnswersNotHandled : Prop :=
  decodeOp 0b111#3 = .unhreq ∧
  ∀ s : State, s.seq = .idle → s.wrp = false →
    exec .unhreq s = .next { s with
      seq := .idle
      op := none
      result := .notHandled
      trace := s.trace ++ [.response .notHandled (some 0)] }

/-- While a deferred write is outstanding no request is accepted: no register changes, nothing is emitted (R165, U11; that the
step goes on and says `notAccepted` is the model's choice, log 12). -/
def Obligations.RequestsWaitForTheDeferredWrite : Prop :=
  ∀ s : State, s.seq = .idle → s.wrp = true →
    exec .getrep s = .next { s with result := .notAccepted } ∧
    exec .unhreq s = .next { s with result := .notAccepted } ∧
    (s.cfg.variant = .B → exec .setrep s = .next { s with result := .notAccepted })

/-- The handler's state machine (R164): which host operations are answered at each value of `WRP`, and where `WRP` goes. That
a request which is not accepted (R165) is a next state with the result `notAccepted` is the model's choice (log 12). -/
def Obligations.HandlerFollowsWrp : Prop :=
  ∀ (i : Instr) (s : State), i.port = .host → s.seq = .idle →
    ((∃ t, exec i s = .next t ∧ t.result ≠ .notAccepted) ↔ (i.wf s.cfg = true ∧ (s.wrp = true ↔ i = .wrchunk))) ∧
    (∀ t, exec i s = .next t → t.result ≠ .notAccepted → t.wrp = decide (i = .setrep)) ∧
    (∀ t, exec i s = .next t → t.result = .notAccepted → t.wrp = s.wrp)

/-- At an operation boundary the environment may clear `WRP`; that changes nothing else and emits nothing (R165). -/
def Obligations.EnvironmentMayClearWrp : Prop :=
  ∀ (s : State) (rest : List Stimulus), s.script = .clearWrp :: rest → s.seq = .idle →
    step s = .next { s with wrp := false, script := rest }

/-- A host operation writes no report, no line, no LED, no `RAW`, sends nothing, and only SETREP touches `FB` (R167, R187). -/
def Obligations.HostReachesOnlyFlagAndWrp : Prop :=
  ∀ (i : Instr) (s t : State), i.port = .host → exec i s = .next t →
    t.cfg = s.cfg ∧ t.cur = s.cur ∧ t.last = s.last ∧ t.raw = s.raw ∧ t.clk = s.clk ∧ t.load = s.load ∧
    t.ledSt = s.ledSt ∧ t.inp = s.inp ∧ t.earlier = s.earlier ∧ t.script = s.script ∧ t.seq = .idle ∧
    (i ≠ .setrep → t.fb = s.fb) ∧
    ∃ es, t.trace = s.trace ++ es ∧ sentReports es = []

/-- What a host operation tells depends on `LAST` and on whether it is admitted, and on no other register: `CUR`, `FB`, `RAW`,
`LED_ST` and the lines cannot be learned through the port (R167). -/
def Obligations.HostLearnsOnlyLast : Prop :=
  ∀ (i : Instr) (s u : State), i.port = .host →
    s.cfg = u.cfg → s.last = u.last → s.wrp = u.wrp → s.seq = u.seq →
    ∀ t, exec i s = .next t →
      ∃ v es, exec i u = .next v ∧ v.result = t.result ∧ v.wrp = t.wrp ∧
        t.trace = s.trace ++ es ∧ v.trace = u.trace ++ es

/-- An engine operation leaves `FB`, `WRP` and the parameters alone (R23, R29, R187), and ends idle with the lines of the
sampler as they were or at their idle levels. -/
def Obligations.EngineLeavesTheHandlerAlone : Prop :=
  ∀ (i : Instr) (s t : State), i.port = .engine → exec i s = .next t →
    t.fb = s.fb ∧ t.wrp = s.wrp ∧ t.cfg = s.cfg ∧ t.inp = s.inp ∧ t.earlier = s.earlier ∧ t.script = s.script ∧
    t.seq = .idle ∧ (s.linesIdle → t.linesIdle)

/-- `LAST` changes in a send and nowhere else, and then it is what was sent (R22, R142). -/
def Obligations.LastChangesOnlyInASend : Prop :=
  ∀ (i : Instr) (s t : State), s.reportsWf → exec i s = .next t →
    ∃ es, t.trace = s.trace ++ es ∧
      ((sentReports es = [] ∧ t.last = s.last) ∨ (sentReports es = [t.last] ∧ t.last = t.cur))

/-- Over any run without a reset, `FB` has been inverted once per accepted SET_REPORT (R161, R168). -/
def Obligations.FlagIsParityOfSetReports : Prop :=
  ∀ (s t : State) (k : Nat), Stimulus.reset ∉ s.script → runSteps k s = .next t →
    ∃ es, t.trace = s.trace ++ es ∧ t.fb = (s.fb ^^ decide (acceptedSetReports es % 2 = 1))

/-! ### Admission, the sequencer and reset -/

/-- The refusals, exactly (R181 e, R36, R80, U7 to U10): an operation of the variant is refused while the sequencer is busy,
MSEND when not ready, WRCHUNK with no deferred write; an operation the variant has not is always refused; every other one
answers. Which name is given where two refusals apply, absence first, is the model's choice (log 13), and so is that GETREP,
SETREP and UNHREQ with `WRP = 1`, which R165 does not accept, answer a next state (log 12). -/
def Obligations.RefusalsAreExactlyTheNamedOnes : Prop :=
  ∀ (i : Instr) (s : State),
    (i.wf s.cfg = false → exec i s = .refused .absentInVariantA) ∧
    (i.wf s.cfg = true → s.seq ≠ .idle → exec i s = .refused .busy ∧ startOp i s = .refused .busy) ∧
    (i.wf s.cfg = true → s.seq = .idle →
      ((∃ t, exec i s = .next t) ↔
        ¬ (i = .msend ∧ s.inp.ready = false) ∧ ¬ (i = .wrchunk ∧ s.wrp = false)))

/-- The table of R36, row by row: what the micro-step writes, which event it emits, which micro-step is next, and that nothing
else changes. Which operation is in progress, where a row asks for it, is the model's field `op` (log 9). -/
def Obligations.MicroStepsFollowTheTable : Prop :=
  ∀ s : State,
    (s.seq = .rdy → s.inp.ready = true →
      s.microStep = { s with seq := .ldLo, trace := s.trace ++ [.read .ready true] }) ∧
    (s.seq = .rdy → s.inp.ready = false →
      s.microStep = { s with
        seq := .idle, op := none, result := .sent false, trace := s.trace ++ [.read .ready false] }) ∧
    (s.seq = .ldLo →
      s.microStep = { s with load := false, raw := 0x00#8, seq := .ldHi, trace := s.trace ++ [.set .load false] }) ∧
    (s.seq = .ldHi → s.microStep = { s with load := true, seq := .ckHi 0, trace := s.trace ++ [.set .load true] }) ∧
    (∀ i, s.seq = .ckHi i → s.microStep = { s with clk := true, seq := .ckLo i, trace := s.trace ++ [.set .clk true] }) ∧
    (∀ i, s.seq = .ckLo i → s.microStep = { s with clk := false, seq := .rd i, trace := s.trace ++ [.set .clk false] }) ∧
    (∀ i : Fin 8, s.seq = .rd i →
      ∃ b, (∀ k : Fin 8, b.getLsbD k.val = if k = i then s.inp.ser[i] else s.raw.getLsbD k.val) ∧
        (∀ j : Fin 8, j.val = i.val + 1 →
          s.microStep = { s with raw := b, seq := .ckHi j, trace := s.trace ++ [.read .ser s.inp.ser[i]] }) ∧
        (i = 7 → s.op = some .sample →
          s.microStep = { s with
            raw := b, seq := .idle, op := none, result := .rawOut b, trace := s.trace ++ [.read .ser s.inp.ser[i]] }) ∧
        (i = 7 → s.op = some .build ∨ s.op = some .cycle →
          s.microStep = { s with raw := b, seq := .bld, trace := s.trace ++ [.read .ser s.inp.ser[i]] })) ∧
    (s.seq = .bld → s.op = some .cycle →
      s.microStep = { s with cur := buildReport s.cfg s.cur s.raw, seq := .cmp }) ∧
    (s.seq = .bld → s.op = some .build →
      s.microStep = { s with cur := buildReport s.cfg s.cur s.raw, seq := .idle, op := none, result := .none }) ∧
    (s.seq = .cmp → s.reportsWf → s.cur ≠ s.last → s.microStep = { s with seq := .cpy }) ∧
    (s.seq = .cmp → s.reportsWf → s.cur = s.last →
      s.microStep = { s with seq := .idle, op := none, result := .sent false }) ∧
    (s.seq = .cpy → s.reportsWf → s.microStep = { s with last := s.cur, seq := .tx }) ∧
    (s.seq = .tx → s.reportsWf →
      s.microStep = { s with seq := .led, trace := s.trace ++ [.sendInterrupt s.last s.cfg.n] }) ∧
    (s.seq = .led → s.fb = true →
      s.microStep = { s with
        ledSt := !s.ledSt, seq := .idle, op := none, result := .sent true
        trace := s.trace ++ [.set .ledSt (!s.ledSt)] }) ∧
    (s.seq = .led → s.fb = false → s.microStep = { s with seq := .idle, op := none, result := .sent true })

/-- The step starts an operation, takes its micro-steps one at a time, and waits when idle (R36, R201). That a tick, or a step
with no stimulus, is one micro-step and changes nothing when idle is the model's reading (log 21); starting an operation to
take it micro-step by micro-step is its choice (log 8). -/
def Obligations.StepTakesMicroSteps : Prop :=
  ∀ (s : State) (rest : List Stimulus),
    (s.script = .tick :: rest → step s = .next ({ s with script := rest } : State).microStep) ∧
    (s.script = [] → step s = .next s.microStep) ∧
    (s.script = [] → s.seq = .idle → step s = .next s) ∧
    (∀ code inp, s.script = .start code inp :: rest →
      step s = startOp (decodeOp code) { s with script := rest, inp := inp })

/-- The sequencer refines the operations: an operation that answers `t` when taken at once is accepted when started, and is
back at `IDLE` in `t` after at most 32 micro-steps (R7, R36, R150; an idle block takes no further micro-step). One that is
refused at once is refused when started. -/
def Obligations.MicroStepsRefineTheOperations : Prop :=
  ∀ (i : Instr) (s : State),
    (∀ t, exec i s = .next t → ∃ u, startOp i s = .next u ∧ State.microSteps 32 u = t) ∧
    (∀ r, exec i s = .refused r → startOp i s = .refused r)

/-- RESET (R200), in any state, inside an operation too: every register at its value of R35, `LED_ST` at the open
`LED_ST_RESET`, the operation abandoned, no event emitted. -/
def Obligations.ResetEventFromAnyState : Prop :=
  ∀ (s : State) (rest : List Stimulus), s.script = .reset :: rest →
    ∃ t, step s = .next t ∧
      t.cfg = s.cfg ∧ t.cur = List.replicate s.cfg.n 0x00#8 ∧ t.last = List.replicate s.cfg.n 0x00#8 ∧
      t.fb = false ∧ t.clk = false ∧ t.load = true ∧ t.ledSt = s.cfg.ledStReset ∧ t.seq = .idle ∧ t.wrp = false ∧
      t.op = none ∧ t.earlier ++ t.trace = s.earlier ++ s.trace ∧ t.script = rest

/-- The reset state has the values of R35, for all parameters. -/
def Obligations.ResetValuesAsListed : Prop :=
  ∀ p : Params,
    (∀ k, k < p.n → (State.resetOf p).cur[k]? = some 0x00#8 ∧ (State.resetOf p).last[k]? = some 0x00#8) ∧
    (State.resetOf p).reportsWf ∧ (State.resetOf p).fb = false ∧ (State.resetOf p).clk = false ∧
    (State.resetOf p).load = true ∧ (State.resetOf p).ledSt = p.ledStReset ∧ (State.resetOf p).seq = .idle ∧
    (State.resetOf p).wrp = false

/-! ### Invariants -/

/-- The invariant holds right after reset, for all parameters and all stimuli to come. -/
def Obligations.InvariantHoldsAtReset : Prop :=
  State.reset.Inv ∧ ∀ (p : Params) (xs : List Stimulus), ({ State.resetOf p with script := xs } : State).Inv

/-- Every step keeps the invariant, from every state that has it: the reports keep their `N` bytes, the lines go with the
sequencer, `LAST` is what was sent last, a copy is never without a difference, variant A's flag, `WRP` and LED never move. -/
def Obligations.StepKeepsTheInvariant : Prop :=
  ∀ s t : State, s.Inv → step s = .next t → t.Inv

/-- In every reachable state with `SEQ = IDLE`, `CLK = 0` and `LOAD = 1` (R39). -/
def Obligations.IdleBlockHasIdleLines : Prop :=
  ∀ (p : Params) (xs : List Stimulus) (k : Nat) (t : State),
    runSteps k { State.resetOf p with script := xs } = .next t → t.seq = .idle → t.linesIdle

/-- In every reachable state outside the moment between copy and send, `LAST` is the payload of the most recent send since
reset, or its reset value if there was none (R37; log 20 for that moment). -/
def Obligations.LastIsMostRecentlySent : Prop :=
  ∀ (p : Params) (xs : List Stimulus) (k : Nat) (t : State),
    runSteps k { State.resetOf p with script := xs } = .next t → t.seq ≠ .tx →
    (sentReports t.trace = [] ∧ t.last = List.replicate p.n 0x00#8) ∨ (sentReports t.trace).getLast? = some t.last

/-- In variant A `FB` and `WRP` keep 0 for ever and the LED never moves (R23, R29, R203). -/
def Obligations.VariantAFlagAndLedNeverMove : Prop :=
  ∀ (p : Params) (xs : List Stimulus) (k : Nat) (t : State), p.variant = .A →
    runSteps k { State.resetOf p with script := xs } = .next t →
    t.fb = false ∧ t.wrp = false ∧ t.ledSt = p.ledStReset

/-- No step changes the parameters (R8). -/
def Obligations.ParametersNeverChange : Prop :=
  ∀ s t : State, step s = .next t → t.cfg = s.cfg
end

