-- ==== Sys2Proof/Laws/State.lean ====
section
/-! SUPPORT. One lemma per field per update of the state, so that no proof unfolds a record update. -/

namespace Sys2Proof.Machine

variable (s : State)

@[simp] theorem State.emit_cfg (e : Event) : (s.emit e).cfg = s.cfg := rfl
@[simp] theorem State.emit_cur (e : Event) : (s.emit e).cur = s.cur := rfl
@[simp] theorem State.emit_last (e : Event) : (s.emit e).last = s.last := rfl
@[simp] theorem State.emit_fb (e : Event) : (s.emit e).fb = s.fb := rfl
@[simp] theorem State.emit_raw (e : Event) : (s.emit e).raw = s.raw := rfl
@[simp] theorem State.emit_clk (e : Event) : (s.emit e).clk = s.clk := rfl
@[simp] theorem State.emit_load (e : Event) : (s.emit e).load = s.load := rfl
@[simp] theorem State.emit_ledSt (e : Event) : (s.emit e).ledSt = s.ledSt := rfl
@[simp] theorem State.emit_seq (e : Event) : (s.emit e).seq = s.seq := rfl
@[simp] theorem State.emit_wrp (e : Event) : (s.emit e).wrp = s.wrp := rfl
@[simp] theorem State.emit_op (e : Event) : (s.emit e).op = s.op := rfl
@[simp] theorem State.emit_inp (e : Event) : (s.emit e).inp = s.inp := rfl
@[simp] theorem State.emit_result (e : Event) : (s.emit e).result = s.result := rfl
@[simp] theorem State.emit_trace (e : Event) : (s.emit e).trace = s.trace ++ [e] := rfl
@[simp] theorem State.emit_earlier (e : Event) : (s.emit e).earlier = s.earlier := rfl
@[simp] theorem State.emit_script (e : Event) : (s.emit e).script = s.script := rfl

@[simp] theorem State.setClk_cfg (v : Level) : (s.setClk v).cfg = s.cfg := rfl
@[simp] theorem State.setClk_cur (v : Level) : (s.setClk v).cur = s.cur := rfl
@[simp] theorem State.setClk_last (v : Level) : (s.setClk v).last = s.last := rfl
@[simp] theorem State.setClk_fb (v : Level) : (s.setClk v).fb = s.fb := rfl
@[simp] theorem State.setClk_raw (v : Level) : (s.setClk v).raw = s.raw := rfl
@[simp] theorem State.setClk_clk (v : Level) : (s.setClk v).clk = v := rfl
@[simp] theorem State.setClk_load (v : Level) : (s.setClk v).load = s.load := rfl
@[simp] theorem State.setClk_ledSt (v : Level) : (s.setClk v).ledSt = s.ledSt := rfl
@[simp] theorem State.setClk_seq (v : Level) : (s.setClk v).seq = s.seq := rfl
@[simp] theorem State.setClk_wrp (v : Level) : (s.setClk v).wrp = s.wrp := rfl
@[simp] theorem State.setClk_op (v : Level) : (s.setClk v).op = s.op := rfl
@[simp] theorem State.setClk_inp (v : Level) : (s.setClk v).inp = s.inp := rfl
@[simp] theorem State.setClk_result (v : Level) : (s.setClk v).result = s.result := rfl
@[simp] theorem State.setClk_trace (v : Level) : (s.setClk v).trace = s.trace ++ [.set .clk v] := rfl
@[simp] theorem State.setClk_earlier (v : Level) : (s.setClk v).earlier = s.earlier := rfl
@[simp] theorem State.setClk_script (v : Level) : (s.setClk v).script = s.script := rfl

@[simp] theorem State.setLoad_cfg (v : Level) : (s.setLoad v).cfg = s.cfg := rfl
@[simp] theorem State.setLoad_cur (v : Level) : (s.setLoad v).cur = s.cur := rfl
@[simp] theorem State.setLoad_last (v : Level) : (s.setLoad v).last = s.last := rfl
@[simp] theorem State.setLoad_fb (v : Level) : (s.setLoad v).fb = s.fb := rfl
@[simp] theorem State.setLoad_raw (v : Level) : (s.setLoad v).raw = s.raw := rfl
@[simp] theorem State.setLoad_clk (v : Level) : (s.setLoad v).clk = s.clk := rfl
@[simp] theorem State.setLoad_load (v : Level) : (s.setLoad v).load = v := rfl
@[simp] theorem State.setLoad_ledSt (v : Level) : (s.setLoad v).ledSt = s.ledSt := rfl
@[simp] theorem State.setLoad_seq (v : Level) : (s.setLoad v).seq = s.seq := rfl
@[simp] theorem State.setLoad_wrp (v : Level) : (s.setLoad v).wrp = s.wrp := rfl
@[simp] theorem State.setLoad_op (v : Level) : (s.setLoad v).op = s.op := rfl
@[simp] theorem State.setLoad_inp (v : Level) : (s.setLoad v).inp = s.inp := rfl
@[simp] theorem State.setLoad_result (v : Level) : (s.setLoad v).result = s.result := rfl
@[simp] theorem State.setLoad_trace (v : Level) : (s.setLoad v).trace = s.trace ++ [.set .load v] := rfl
@[simp] theorem State.setLoad_earlier (v : Level) : (s.setLoad v).earlier = s.earlier := rfl
@[simp] theorem State.setLoad_script (v : Level) : (s.setLoad v).script = s.script := rfl

@[simp] theorem State.setLedSt_cfg (v : Level) : (s.setLedSt v).cfg = s.cfg := rfl
@[simp] theorem State.setLedSt_cur (v : Level) : (s.setLedSt v).cur = s.cur := rfl
@[simp] theorem State.setLedSt_last (v : Level) : (s.setLedSt v).last = s.last := rfl
@[simp] theorem State.setLedSt_fb (v : Level) : (s.setLedSt v).fb = s.fb := rfl
@[simp] theorem State.setLedSt_raw (v : Level) : (s.setLedSt v).raw = s.raw := rfl
@[simp] theorem State.setLedSt_clk (v : Level) : (s.setLedSt v).clk = s.clk := rfl
@[simp] theorem State.setLedSt_load (v : Level) : (s.setLedSt v).load = s.load := rfl
@[simp] theorem State.setLedSt_ledSt (v : Level) : (s.setLedSt v).ledSt = v := rfl
@[simp] theorem State.setLedSt_seq (v : Level) : (s.setLedSt v).seq = s.seq := rfl
@[simp] theorem State.setLedSt_wrp (v : Level) : (s.setLedSt v).wrp = s.wrp := rfl
@[simp] theorem State.setLedSt_op (v : Level) : (s.setLedSt v).op = s.op := rfl
@[simp] theorem State.setLedSt_inp (v : Level) : (s.setLedSt v).inp = s.inp := rfl
@[simp] theorem State.setLedSt_result (v : Level) : (s.setLedSt v).result = s.result := rfl
@[simp] theorem State.setLedSt_trace (v : Level) : (s.setLedSt v).trace = s.trace ++ [.set .ledSt v] := rfl
@[simp] theorem State.setLedSt_earlier (v : Level) : (s.setLedSt v).earlier = s.earlier := rfl
@[simp] theorem State.setLedSt_script (v : Level) : (s.setLedSt v).script = s.script := rfl

@[simp] theorem State.sampleBit_cfg (i : Fin 8) : (s.sampleBit i).cfg = s.cfg := rfl
@[simp] theorem State.sampleBit_cur (i : Fin 8) : (s.sampleBit i).cur = s.cur := rfl
@[simp] theorem State.sampleBit_last (i : Fin 8) : (s.sampleBit i).last = s.last := rfl
@[simp] theorem State.sampleBit_fb (i : Fin 8) : (s.sampleBit i).fb = s.fb := rfl
@[simp] theorem State.sampleBit_raw (i : Fin 8) : (s.sampleBit i).raw = setBit s.raw i s.inp.ser[i] := rfl
@[simp] theorem State.sampleBit_clk (i : Fin 8) : (s.sampleBit i).clk = s.clk := rfl
@[simp] theorem State.sampleBit_load (i : Fin 8) : (s.sampleBit i).load = s.load := rfl
@[simp] theorem State.sampleBit_ledSt (i : Fin 8) : (s.sampleBit i).ledSt = s.ledSt := rfl
@[simp] theorem State.sampleBit_seq (i : Fin 8) : (s.sampleBit i).seq = s.seq := rfl
@[simp] theorem State.sampleBit_wrp (i : Fin 8) : (s.sampleBit i).wrp = s.wrp := rfl
@[simp] theorem State.sampleBit_op (i : Fin 8) : (s.sampleBit i).op = s.op := rfl
@[simp] theorem State.sampleBit_inp (i : Fin 8) : (s.sampleBit i).inp = s.inp := rfl
@[simp] theorem State.sampleBit_result (i : Fin 8) : (s.sampleBit i).result = s.result := rfl
@[simp] theorem State.sampleBit_trace (i : Fin 8) : (s.sampleBit i).trace = s.trace ++ [.read .ser s.inp.ser[i]] := rfl
@[simp] theorem State.sampleBit_earlier (i : Fin 8) : (s.sampleBit i).earlier = s.earlier := rfl
@[simp] theorem State.sampleBit_script (i : Fin 8) : (s.sampleBit i).script = s.script := rfl

@[simp] theorem State.writeCur_cfg : (s.writeCur).cfg = s.cfg := rfl
@[simp] theorem State.writeCur_cur : (s.writeCur).cur = buildReport s.cfg s.cur s.raw := rfl
@[simp] theorem State.writeCur_last : (s.writeCur).last = s.last := rfl
@[simp] theorem State.writeCur_fb : (s.writeCur).fb = s.fb := rfl
@[simp] theorem State.writeCur_raw : (s.writeCur).raw = s.raw := rfl
@[simp] theorem State.writeCur_clk : (s.writeCur).clk = s.clk := rfl
@[simp] theorem State.writeCur_load : (s.writeCur).load = s.load := rfl
@[simp] theorem State.writeCur_ledSt : (s.writeCur).ledSt = s.ledSt := rfl
@[simp] theorem State.writeCur_seq : (s.writeCur).seq = s.seq := rfl
@[simp] theorem State.writeCur_wrp : (s.writeCur).wrp = s.wrp := rfl
@[simp] theorem State.writeCur_op : (s.writeCur).op = s.op := rfl
@[simp] theorem State.writeCur_inp : (s.writeCur).inp = s.inp := rfl
@[simp] theorem State.writeCur_result : (s.writeCur).result = s.result := rfl
@[simp] theorem State.writeCur_trace : (s.writeCur).trace = s.trace := rfl
@[simp] theorem State.writeCur_earlier : (s.writeCur).earlier = s.earlier := rfl
@[simp] theorem State.writeCur_script : (s.writeCur).script = s.script := rfl

@[simp] theorem State.copyToLast_cfg : (s.copyToLast).cfg = s.cfg := rfl
@[simp] theorem State.copyToLast_cur : (s.copyToLast).cur = s.cur := rfl
@[simp] theorem State.copyToLast_last : (s.copyToLast).last = memWrite s.last 0 (memRead s.cur 0 s.cfg.n) := rfl
@[simp] theorem State.copyToLast_fb : (s.copyToLast).fb = s.fb := rfl
@[simp] theorem State.copyToLast_raw : (s.copyToLast).raw = s.raw := rfl
@[simp] theorem State.copyToLast_clk : (s.copyToLast).clk = s.clk := rfl
@[simp] theorem State.copyToLast_load : (s.copyToLast).load = s.load := rfl
@[simp] theorem State.copyToLast_ledSt : (s.copyToLast).ledSt = s.ledSt := rfl
@[simp] theorem State.copyToLast_seq : (s.copyToLast).seq = s.seq := rfl
@[simp] theorem State.copyToLast_wrp : (s.copyToLast).wrp = s.wrp := rfl
@[simp] theorem State.copyToLast_op : (s.copyToLast).op = s.op := rfl
@[simp] theorem State.copyToLast_inp : (s.copyToLast).inp = s.inp := rfl
@[simp] theorem State.copyToLast_result : (s.copyToLast).result = s.result := rfl
@[simp] theorem State.copyToLast_trace : (s.copyToLast).trace = s.trace := rfl
@[simp] theorem State.copyToLast_earlier : (s.copyToLast).earlier = s.earlier := rfl
@[simp] theorem State.copyToLast_script : (s.copyToLast).script = s.script := rfl

@[simp] theorem State.transmit_cfg : (s.transmit).cfg = s.cfg := rfl
@[simp] theorem State.transmit_cur : (s.transmit).cur = s.cur := rfl
@[simp] theorem State.transmit_last : (s.transmit).last = s.last := rfl
@[simp] theorem State.transmit_fb : (s.transmit).fb = s.fb := rfl
@[simp] theorem State.transmit_raw : (s.transmit).raw = s.raw := rfl
@[simp] theorem State.transmit_clk : (s.transmit).clk = s.clk := rfl
@[simp] theorem State.transmit_load : (s.transmit).load = s.load := rfl
@[simp] theorem State.transmit_ledSt : (s.transmit).ledSt = s.ledSt := rfl
@[simp] theorem State.transmit_seq : (s.transmit).seq = s.seq := rfl
@[simp] theorem State.transmit_wrp : (s.transmit).wrp = s.wrp := rfl
@[simp] theorem State.transmit_op : (s.transmit).op = s.op := rfl
@[simp] theorem State.transmit_inp : (s.transmit).inp = s.inp := rfl
@[simp] theorem State.transmit_result : (s.transmit).result = s.result := rfl
@[simp] theorem State.transmit_trace : (s.transmit).trace = s.trace ++ [.sendInterrupt (memRead s.last 0 s.cfg.n) s.cfg.n] := rfl
@[simp] theorem State.transmit_earlier : (s.transmit).earlier = s.earlier := rfl
@[simp] theorem State.transmit_script : (s.transmit).script = s.script := rfl

@[simp] theorem State.complete_cfg (r : Result) : (s.complete r).cfg = s.cfg := rfl
@[simp] theorem State.complete_cur (r : Result) : (s.complete r).cur = s.cur := rfl
@[simp] theorem State.complete_last (r : Result) : (s.complete r).last = s.last := rfl
@[simp] theorem State.complete_fb (r : Result) : (s.complete r).fb = s.fb := rfl
@[simp] theorem State.complete_raw (r : Result) : (s.complete r).raw = s.raw := rfl
@[simp] theorem State.complete_clk (r : Result) : (s.complete r).clk = s.clk := rfl
@[simp] theorem State.complete_load (r : Result) : (s.complete r).load = s.load := rfl
@[simp] theorem State.complete_ledSt (r : Result) : (s.complete r).ledSt = s.ledSt := rfl
@[simp] theorem State.complete_seq (r : Result) : (s.complete r).seq = .idle := rfl
@[simp] theorem State.complete_wrp (r : Result) : (s.complete r).wrp = s.wrp := rfl
@[simp] theorem State.complete_op (r : Result) : (s.complete r).op = none := rfl
@[simp] theorem State.complete_inp (r : Result) : (s.complete r).inp = s.inp := rfl
@[simp] theorem State.complete_result (r : Result) : (s.complete r).result = r := rfl
@[simp] theorem State.complete_trace (r : Result) : (s.complete r).trace = s.trace := rfl
@[simp] theorem State.complete_earlier (r : Result) : (s.complete r).earlier = s.earlier := rfl
@[simp] theorem State.complete_script (r : Result) : (s.complete r).script = s.script := rfl

@[simp] theorem State.notAccept_cfg : (s.notAccept).cfg = s.cfg := rfl
@[simp] theorem State.notAccept_cur : (s.notAccept).cur = s.cur := rfl
@[simp] theorem State.notAccept_last : (s.notAccept).last = s.last := rfl
@[simp] theorem State.notAccept_fb : (s.notAccept).fb = s.fb := rfl
@[simp] theorem State.notAccept_raw : (s.notAccept).raw = s.raw := rfl
@[simp] theorem State.notAccept_clk : (s.notAccept).clk = s.clk := rfl
@[simp] theorem State.notAccept_load : (s.notAccept).load = s.load := rfl
@[simp] theorem State.notAccept_ledSt : (s.notAccept).ledSt = s.ledSt := rfl
@[simp] theorem State.notAccept_seq : (s.notAccept).seq = s.seq := rfl
@[simp] theorem State.notAccept_wrp : (s.notAccept).wrp = s.wrp := rfl
@[simp] theorem State.notAccept_op : (s.notAccept).op = s.op := rfl
@[simp] theorem State.notAccept_inp : (s.notAccept).inp = s.inp := rfl
@[simp] theorem State.notAccept_result : (s.notAccept).result = .notAccepted := rfl
@[simp] theorem State.notAccept_trace : (s.notAccept).trace = s.trace := rfl
@[simp] theorem State.notAccept_earlier : (s.notAccept).earlier = s.earlier := rfl
@[simp] theorem State.notAccept_script : (s.notAccept).script = s.script := rfl

@[simp] theorem State.goto_cfg (q : SeqState) : (s.goto q).cfg = s.cfg := rfl
@[simp] theorem State.goto_cur (q : SeqState) : (s.goto q).cur = s.cur := rfl
@[simp] theorem State.goto_last (q : SeqState) : (s.goto q).last = s.last := rfl
@[simp] theorem State.goto_fb (q : SeqState) : (s.goto q).fb = s.fb := rfl
@[simp] theorem State.goto_raw (q : SeqState) : (s.goto q).raw = s.raw := rfl
@[simp] theorem State.goto_clk (q : SeqState) : (s.goto q).clk = s.clk := rfl
@[simp] theorem State.goto_load (q : SeqState) : (s.goto q).load = s.load := rfl
@[simp] theorem State.goto_ledSt (q : SeqState) : (s.goto q).ledSt = s.ledSt := rfl
@[simp] theorem State.goto_seq (q : SeqState) : (s.goto q).seq = q := rfl
@[simp] theorem State.goto_wrp (q : SeqState) : (s.goto q).wrp = s.wrp := rfl
@[simp] theorem State.goto_op (q : SeqState) : (s.goto q).op = s.op := rfl
@[simp] theorem State.goto_inp (q : SeqState) : (s.goto q).inp = s.inp := rfl
@[simp] theorem State.goto_result (q : SeqState) : (s.goto q).result = s.result := rfl
@[simp] theorem State.goto_trace (q : SeqState) : (s.goto q).trace = s.trace := rfl
@[simp] theorem State.goto_earlier (q : SeqState) : (s.goto q).earlier = s.earlier := rfl
@[simp] theorem State.goto_script (q : SeqState) : (s.goto q).script = s.script := rfl

@[simp] theorem State.enter_cfg (i : Instr) (q : SeqState) : (s.enter i q).cfg = s.cfg := rfl
@[simp] theorem State.enter_cur (i : Instr) (q : SeqState) : (s.enter i q).cur = s.cur := rfl
@[simp] theorem State.enter_last (i : Instr) (q : SeqState) : (s.enter i q).last = s.last := rfl
@[simp] theorem State.enter_fb (i : Instr) (q : SeqState) : (s.enter i q).fb = s.fb := rfl
@[simp] theorem State.enter_raw (i : Instr) (q : SeqState) : (s.enter i q).raw = s.raw := rfl
@[simp] theorem State.enter_clk (i : Instr) (q : SeqState) : (s.enter i q).clk = s.clk := rfl
@[simp] theorem State.enter_load (i : Instr) (q : SeqState) : (s.enter i q).load = s.load := rfl
@[simp] theorem State.enter_ledSt (i : Instr) (q : SeqState) : (s.enter i q).ledSt = s.ledSt := rfl
@[simp] theorem State.enter_seq (i : Instr) (q : SeqState) : (s.enter i q).seq = q := rfl
@[simp] theorem State.enter_wrp (i : Instr) (q : SeqState) : (s.enter i q).wrp = s.wrp := rfl
@[simp] theorem State.enter_op (i : Instr) (q : SeqState) : (s.enter i q).op = some i := rfl
@[simp] theorem State.enter_inp (i : Instr) (q : SeqState) : (s.enter i q).inp = s.inp := rfl
@[simp] theorem State.enter_result (i : Instr) (q : SeqState) : (s.enter i q).result = s.result := rfl
@[simp] theorem State.enter_trace (i : Instr) (q : SeqState) : (s.enter i q).trace = s.trace := rfl
@[simp] theorem State.enter_earlier (i : Instr) (q : SeqState) : (s.enter i q).earlier = s.earlier := rfl
@[simp] theorem State.enter_script (i : Instr) (q : SeqState) : (s.enter i q).script = s.script := rfl

@[simp] theorem State.withInputs_cfg (inp : Inputs) : (s.withInputs inp).cfg = s.cfg := rfl
@[simp] theorem State.withInputs_cur (inp : Inputs) : (s.withInputs inp).cur = s.cur := rfl
@[simp] theorem State.withInputs_last (inp : Inputs) : (s.withInputs inp).last = s.last := rfl
@[simp] theorem State.withInputs_fb (inp : Inputs) : (s.withInputs inp).fb = s.fb := rfl
@[simp] theorem State.withInputs_raw (inp : Inputs) : (s.withInputs inp).raw = s.raw := rfl
@[simp] theorem State.withInputs_clk (inp : Inputs) : (s.withInputs inp).clk = s.clk := rfl
@[simp] theorem State.withInputs_load (inp : Inputs) : (s.withInputs inp).load = s.load := rfl
@[simp] theorem State.withInputs_ledSt (inp : Inputs) : (s.withInputs inp).ledSt = s.ledSt := rfl
@[simp] theorem State.withInputs_seq (inp : Inputs) : (s.withInputs inp).seq = s.seq := rfl
@[simp] theorem State.withInputs_wrp (inp : Inputs) : (s.withInputs inp).wrp = s.wrp := rfl
@[simp] theorem State.withInputs_op (inp : Inputs) : (s.withInputs inp).op = s.op := rfl
@[simp] theorem State.withInputs_inp (inp : Inputs) : (s.withInputs inp).inp = inp := rfl
@[simp] theorem State.withInputs_result (inp : Inputs) : (s.withInputs inp).result = s.result := rfl
@[simp] theorem State.withInputs_trace (inp : Inputs) : (s.withInputs inp).trace = s.trace := rfl
@[simp] theorem State.withInputs_earlier (inp : Inputs) : (s.withInputs inp).earlier = s.earlier := rfl
@[simp] theorem State.withInputs_script (inp : Inputs) : (s.withInputs inp).script = s.script := rfl

@[simp] theorem State.present_cfg (c : OpCode) (inp : Inputs) : (s.present c inp).cfg = s.cfg := rfl
@[simp] theorem State.present_cur (c : OpCode) (inp : Inputs) : (s.present c inp).cur = s.cur := rfl
@[simp] theorem State.present_last (c : OpCode) (inp : Inputs) : (s.present c inp).last = s.last := rfl
@[simp] theorem State.present_fb (c : OpCode) (inp : Inputs) : (s.present c inp).fb = s.fb := rfl
@[simp] theorem State.present_raw (c : OpCode) (inp : Inputs) : (s.present c inp).raw = s.raw := rfl
@[simp] theorem State.present_clk (c : OpCode) (inp : Inputs) : (s.present c inp).clk = s.clk := rfl
@[simp] theorem State.present_load (c : OpCode) (inp : Inputs) : (s.present c inp).load = s.load := rfl
@[simp] theorem State.present_ledSt (c : OpCode) (inp : Inputs) : (s.present c inp).ledSt = s.ledSt := rfl
@[simp] theorem State.present_seq (c : OpCode) (inp : Inputs) : (s.present c inp).seq = s.seq := rfl
@[simp] theorem State.present_wrp (c : OpCode) (inp : Inputs) : (s.present c inp).wrp = s.wrp := rfl
@[simp] theorem State.present_op (c : OpCode) (inp : Inputs) : (s.present c inp).op = s.op := rfl
@[simp] theorem State.present_inp (c : OpCode) (inp : Inputs) : (s.present c inp).inp = s.inp := rfl
@[simp] theorem State.present_result (c : OpCode) (inp : Inputs) : (s.present c inp).result = s.result := rfl
@[simp] theorem State.present_trace (c : OpCode) (inp : Inputs) : (s.present c inp).trace = s.trace := rfl
@[simp] theorem State.present_earlier (c : OpCode) (inp : Inputs) : (s.present c inp).earlier = s.earlier := rfl
@[simp] theorem State.present_script (c : OpCode) (inp : Inputs) : (s.present c inp).script = .op c inp :: s.script := rfl

/-! The reset event keeps the parameters, the stimuli to come and the record of the events. -/

@[simp] theorem State.resetEvent_cfg : s.resetEvent.cfg = s.cfg := rfl
@[simp] theorem State.resetEvent_script : s.resetEvent.script = s.script := rfl
@[simp] theorem State.resetEvent_earlier : s.resetEvent.earlier = s.earlier ++ s.trace := rfl
@[simp] theorem State.resetEvent_trace : s.resetEvent.trace = [] := rfl

/-- The word of the table stands as the next stimulus, and nothing else changes. -/
theorem State.withFetchWord_eq (nbits w : Nat) :
    s.withFetchWord nbits w = s.present (portCode nbits w) (presentedInputs s) := rfl

end Sys2Proof.Machine
end

