-- ==== Sys2Proof/Laws/Reports.lean ====
section
/-! SUPPORT. What the byte operations over reports can do; every one of them keeps a report's canonical form. -/

namespace Sys2Proof.Machine

theorem memRead_all {r : Report} {n : Nat} (h : r.length = n) : memRead r 0 n = r := by
  subst h; simp [memRead]

theorem memWrite_all {r v : Report} (h : v.length = r.length) : memWrite r 0 v = v := by
  simp [memWrite, h]

theorem memWrite_length {r v : Report} {k : Nat} (h : k + v.length ≤ r.length) :
    (memWrite r k v).length = r.length := by
  simp [memWrite]; omega

theorem memRead_length {r : Report} {k n : Nat} (h : k + n ≤ r.length) : (memRead r k n).length = n := by
  simp [memRead]; omega

theorem buildReport_length (p : Params) (prev : Report) (r : Byte) :
    (buildReport p prev r).length = prev.length := by
  cases h : p.variant <;> simp [buildReport, h]

theorem Report.wf_iff {p : Params} {r : Report} : r.wf p = true ↔ r.length = p.n := by
  simp [Report.wf]

theorem buildReport_wf {p : Params} {prev : Report} (r : Byte) (h : prev.wf p = true) :
    (buildReport p prev r).wf p = true := by
  rw [Report.wf_iff] at *; rw [buildReport_length, h]

/-- A report of variant A is its three bytes. -/
theorem Report.eq_of_wf_A {p : Params} {r : Report} (hp : p.variant = .A) (h : r.wf p = true) :
    ∃ x y b, r = [x, y, b] := by
  have h3 : r.length = 3 := by simpa [Report.wf, Params.n, hp] using h
  exact List.length_eq_three.mp h3

/-- A report of variant B is its four bytes. -/
theorem Report.eq_of_wf_B {p : Params} {r : Report} (hp : p.variant = .B) (h : r.wf p = true) :
    ∃ x y z b, r = [x, y, z, b] := by
  have h4 : r.length = 4 := by simpa [Report.wf, Params.n, hp] using h
  match r, h4 with
  | [x, y, z, b], _ => exact ⟨x, y, z, b, rfl⟩

/-- The compare finds a difference in two reports of `n` bytes exactly when they are not equal. -/
theorem reportsDiffer_iff {n : Nat} {a b : Report} (ha : a.length = n) (hb : b.length = n) :
    reportsDiffer n a b = true ↔ a ≠ b := by
  have key : reportsDiffer n a b = false ↔ a = b := by
    simp only [reportsDiffer, List.any_eq_false, List.mem_range, bne_iff_ne, ne_eq, Decidable.not_not]
    constructor
    · intro h
      refine List.ext_getElem (ha.trans hb.symm) fun k hka hkb => ?_
      simpa [byteAt, hka, hkb] using h k (ha ▸ hka)
    · rintro rfl k _; rfl
  cases hd : reportsDiffer n a b <;> simp_all

/-- For well-formed reports the compare of MSEND is inequality of the reports. -/
theorem State.changed_iff {s : State} (h : s.reportsWf) : s.changed = true ↔ s.cur ≠ s.last :=
  reportsDiffer_iff (Report.wf_iff.mp h.1) (Report.wf_iff.mp h.2)

/-- For well-formed reports the copy makes `LAST` equal to `CUR`. -/
theorem State.copyToLast_eq {s : State} (h : s.reportsWf) : s.copyToLast = { s with last := s.cur } := by
  have hc := Report.wf_iff.mp h.1
  have hl := Report.wf_iff.mp h.2
  simp only [State.copyToLast, memRead_all hc, memWrite_all (hc.trans hl.symm)]

/-- The writes of BUILD keep both reports in form. -/
theorem State.writeCur_reportsWf {s : State} (h : s.reportsWf) : s.writeCur.reportsWf :=
  ⟨buildReport_wf _ h.1, h.2⟩

/-- The copy keeps both reports in form. -/
theorem State.copyToLast_reportsWf {s : State} (h : s.reportsWf) : s.copyToLast.reportsWf := by
  rw [State.copyToLast_eq h]; exact ⟨h.1, h.1⟩

/-- The reports right after reset are in form, for all parameters. -/
theorem State.resetOf_reportsWf (p : Params) : (State.resetOf p).reportsWf := by
  constructor <;> simp [State.resetOf, Report.wf]

/-- Reports at their reset value are in form. -/
theorem State.reportsAtReset_reportsWf {s : State} (h : s.reportsAtReset) : s.reportsWf := by
  constructor <;> simp [Report.wf_iff, h.1, h.2]

theorem State.resetOf_reportsAtReset (p : Params) : (State.resetOf p).reportsAtReset := ⟨rfl, rfl⟩

end Sys2Proof.Machine
end

