-- ==== Sys2Proof/Laws/Sampler.lean ====
section
/-! SUPPORT. What one sample does, once for SAMPLE, BUILD and CYCLE. -/

namespace Sys2Proof.Machine

/-- A write of bit `i` writes that bit and no other. -/
theorem setBit_getLsbD : ∀ (b : Byte) (i k : Fin 8) (v : Bool),
    (setBit b i v).getLsbD k.val = if k = i then v else b.getLsbD k.val := by
  intro b i k v
  unfold setBit
  cases v <;> fin_cases i <;> fin_cases k <;> simp

/-- Eight writes into a cleared byte assemble the byte of R74. -/
theorem assemble_bits (a b c d e f g h : Bool) :
    setBit (setBit (setBit (setBit (setBit (setBit (setBit (setBit 0x00#8 0 a) 1 b) 2 c) 3 d) 4 e) 5 f) 6 g) 7 h =
      BitVec.ofBool h ++ BitVec.ofBool g ++ BitVec.ofBool f ++ BitVec.ofBool e ++ BitVec.ofBool d ++ BitVec.ofBool c ++
        BitVec.ofBool b ++ BitVec.ofBool a := by
  revert a b c d e f g h; decide

/-- A sample writes `RAW`, leaves the two lines of the sampler at their idle levels and gives its 26 events; it touches
nothing else. -/
theorem State.sample_eq (s : State) :
    s.sample =
      { s with
        raw := serByte s.inp.ser
        clk := false
        load := true
        trace := s.trace ++ sampleEvents s.inp.ser } := by
  have hraw : serByte s.inp.ser = _ := (assemble_bits _ _ _ _ _ _ _ _).symm
  rw [hraw]
  simp [State.sample, bitOrder, State.pulse, State.clockHigh, State.clockLow, State.setClk, State.setLoad, State.emit,
    State.sampleBit, State.readSer, State.loadLow, State.loadHigh, sampleEvents, bitEvents, List.finRange_succ]

theorem sampleEvents_length (v : Vector Level 8) : (sampleEvents v).length = 26 := by
  simp [sampleEvents, bitEvents, List.finRange_succ]

theorem sentReports_append (a b : List Event) : sentReports (a ++ b) = sentReports a ++ sentReports b :=
  List.filterMap_append

@[simp] theorem sentReports_nil : sentReports [] = [] := rfl

theorem sentReports_cons (e : Event) (es : List Event) :
    sentReports (e :: es) = e.sentReport.toList ++ sentReports es := by
  cases h : e.sentReport <;> simp [sentReports, h]

/-- No event of a sample is a send. -/
theorem sentReports_sampleEvents (v : Vector Level 8) : sentReports (sampleEvents v) = [] := by
  simp [sentReports, sampleEvents, bitEvents, List.finRange_succ, Event.sentReport]

/-- BUILD's state change: the sample, then `CUR` composed from the old `CUR` and the assembled byte. -/
theorem State.sample_writeCur_eq (s : State) :
    s.sample.writeCur =
      { s with
        cur := buildReport s.cfg s.cur (serByte s.inp.ser)
        raw := serByte s.inp.ser
        clk := false
        load := true
        trace := s.trace ++ sampleEvents s.inp.ser } := by
  rw [State.sample_eq]; rfl

end Sys2Proof.Machine
end

