-- ==== Sys2Proof/Laws/Operations.lean ====
section
/-! SUPPORT. What the admission of an operation and the shared bodies can do. -/

namespace Sys2Proof.Machine

/-- An admitted operation answers a next state in two ways only: it ran, or the request was held. -/
theorem State.admitted_next {s t u : State} {a : Admission} (h : s.admitted a t = .next u) :
    (a = .accept ∧ u = t) ∨ (a = .hold ∧ u = s.notAccept) := by
  cases a <;> simp_all [State.admitted]

@[simp] theorem State.admitted_accept (s t : State) : s.admitted .accept t = .next t := rfl
@[simp] theorem State.admitted_hold (s t : State) : s.admitted .hold t = .next s.notAccept := rfl
@[simp] theorem State.admitted_refuse (s t : State) (r : Refusal) : s.admitted (.refuse r) t = .refused r := rfl

theorem State.admitEngine_accept {s : State} : s.admitEngine = .accept ↔ s.seq = .idle := by
  simp [State.admitEngine]

theorem State.admitEngine_ne_hold (s : State) : s.admitEngine ≠ .hold := by
  simp only [State.admitEngine]; split <;> simp

theorem State.admitSend_accept {s : State} : s.admitSend = .accept ↔ s.seq = .idle ∧ s.inp.ready = true := by
  simp only [State.admitSend]; split <;> simp_all

theorem State.admitSend_ne_hold (s : State) : s.admitSend ≠ .hold := by
  simp only [State.admitSend]; split
  · split <;> simp
  · simp

theorem State.admitRequest_accept {s : State} : s.admitRequest = .accept ↔ s.seq = .idle ∧ s.wrp = false := by
  simp only [State.admitRequest]; split <;> simp_all

theorem State.admitRequest_hold {s : State} : s.admitRequest = .hold ↔ s.seq = .idle ∧ s.wrp = true := by
  simp only [State.admitRequest]; split <;> simp_all

theorem State.admitSetReport_accept {s : State} :
    s.admitSetReport = .accept ↔ s.cfg.hasSetrep = true ∧ s.seq = .idle ∧ s.wrp = false := by
  simp only [State.admitSetReport]; split <;> simp_all [State.admitRequest_accept]

theorem State.admitSetReport_hold {s : State} :
    s.admitSetReport = .hold ↔ s.cfg.hasSetrep = true ∧ s.seq = .idle ∧ s.wrp = true := by
  simp only [State.admitSetReport]; split <;> simp_all [State.admitRequest_hold]

theorem State.admitChunk_accept {s : State} :
    s.admitChunk = .accept ↔ s.cfg.hasSetrep = true ∧ s.seq = .idle ∧ s.wrp = true := by
  simp only [State.admitChunk]
  split
  · split
    · split <;> simp_all
    · simp_all
  · simp_all

theorem State.admitChunk_ne_hold (s : State) : s.admitChunk ≠ .hold := by
  simp only [State.admitChunk]
  split
  · split
    · split <;> simp
    · simp
  · simp

theorem Params.hasSetrep_iff {p : Params} : p.hasSetrep = true ↔ p.variant = .B := by
  cases h : p.variant <;> simp [Params.hasSetrep, h]

theorem State.maybeSend_of_changed {s : State} (h : s.changed = true) :
    s.maybeSend = s.copyToLast.transmit.toggleLed.complete (.sent true) := if_pos h

theorem State.maybeSend_of_equal {s : State} (h : s.changed = false) : s.maybeSend = s.complete (.sent false) := by
  simp [State.maybeSend, h]

/-- What `MSEND` does to the state: nothing but its result, or the copy, the send and, if `FB = 1`, the LED. -/
theorem State.maybeSend_cases {s : State} (h : s.reportsWf) :
    (s.cur = s.last ∧ s.maybeSend = s.complete (.sent false)) ∨
      (s.cur ≠ s.last ∧ s.fb = false ∧
        s.maybeSend = { s with
          last := s.cur, seq := .idle, op := none, result := .sent true
          trace := s.trace ++ [.sendInterrupt s.cur s.cfg.n] }) ∨
      (s.cur ≠ s.last ∧ s.fb = true ∧
        s.maybeSend = { s with
          last := s.cur, ledSt := !s.ledSt, seq := .idle, op := none, result := .sent true
          trace := s.trace ++ [.sendInterrupt s.cur s.cfg.n, .set .ledSt (!s.ledSt)] }) := by
  have hc := Report.wf_iff.mp h.1
  by_cases hd : s.cur = s.last
  · have : s.changed = false := by
      rw [← Bool.not_eq_true, State.changed_iff h]; simpa using hd
    exact .inl ⟨hd, by simp [State.maybeSend, this]⟩
  · have hch : s.changed = true := (State.changed_iff h).mpr hd
    refine .inr ?_
    cases hf : s.fb
    · exact .inl ⟨hd, rfl, by
        simp [State.maybeSend, hch, State.copyToLast_eq h, State.transmit, memRead_all hc, State.toggleLed, hf, State.emit,
          State.complete]⟩
    · exact .inr ⟨hd, rfl, by
        simp [State.maybeSend, hch, State.copyToLast_eq h, State.transmit, memRead_all hc, State.toggleLed, hf, State.emit,
          State.complete, State.setLedSt]⟩

theorem State.goto_goto (s : State) (q q' : SeqState) : (s.goto q).goto q' = s.goto q' := rfl
theorem State.pulse_goto (s : State) (q : SeqState) (i : Fin 8) : (s.goto q).pulse i = (s.pulse i).goto q := rfl
theorem State.microSteps_one (s : State) : State.microSteps 1 s = s.microStep := rfl

theorem State.microSteps_add (j k : Nat) (s : State) :
    State.microSteps (j + k) s = State.microSteps k (State.microSteps j s) := by
  induction j generalizing s with
  | zero => simp [State.microSteps]
  | succ j ih => rw [Nat.add_right_comm]; exact ih s.microStep

end Sys2Proof.Machine
end

