-- ==== Sys2Proof/Laws/PerInstr.lean ====
section
/-! SUPPORT. Statements about every operation as syntax, one lemma per constructor of Instr. -/

namespace Sys2Proof.Laws.CodeOnPort

/-- The code of the operation, as a word of the opcode table, is a command word and names the operation. -/
def Statement (i : Instr) : Prop := decodeTableWord 8 (encode i).toNat = some i

theorem sample : Statement .sample := rfl
theorem build : Statement .build := rfl
theorem msend : Statement .msend := rfl
theorem cycle : Statement .cycle := rfl
theorem getrep : Statement .getrep := rfl
theorem setrep : Statement .setrep := rfl
theorem wrchunk : Statement .wrchunk := rfl
theorem unhreq : Statement .unhreq := rfl

end Sys2Proof.Laws.CodeOnPort
end

