-- ==== Sys2Proof/Laws/Run.lean ====
section
/-! SUPPORT. How a run goes on, and what an invariant of the step says of a run. -/

namespace Sys2Proof.Machine

@[simp] theorem runSteps_zero (s : State) : runSteps 0 s = .next s := rfl

theorem runSteps_succ {k : Nat} {s u : State} (h : step s = .next u) : runSteps (k + 1) s = runSteps k u := by
  have h' : Sys2Proof.core.step s = .next u := h
  simp only [runSteps, Host.Core.run, h']
  rfl

/-- A run of `k + 1` steps that answers a next state is a step and a run of `k`. -/
theorem runSteps_succ_next {k : Nat} {s t : State} (h : runSteps (k + 1) s = .next t) :
    ∃ u, step s = .next u ∧ runSteps k u = .next t := by
  cases hs : step s with
  | next u => exact ⟨u, rfl, (runSteps_succ hs).symm.trans h⟩
  | fault r => cases r
  | refused r =>
    have h' : Sys2Proof.core.step s = .refused r := hs
    simp only [runSteps, Host.Core.run, h'] at h
    cases h

/-- What every step keeps, every run keeps. -/
theorem runSteps_keeps {P : State → Prop} (hP : ∀ s t, P s → step s = .next t → P t) {k : Nat} {s t : State} (hs : P s)
    (h : runSteps k s = .next t) : P t := by
  induction k generalizing s with
  | zero => cases h; exact hs
  | succ k ih => obtain ⟨u, hu, h⟩ := runSteps_succ_next h; exact ih (hP s u hs hu) h

/-- An operation presented by its code runs as that operation. -/
theorem step_issue {i : Instr} {inp : Inputs} {rest : List Stimulus} {s : State} (h : s.script = issue i inp :: rest) :
    step s = exec i { s with script := rest, inp := inp } := by
  have : decodeOp (encode i) = i := by cases i <;> rfl
  simp only [step, h, issue, stimulate, this]; rfl

end Sys2Proof.Machine
end

