-- ==== Sys2Proof/Tests/Slice0.lean ====
section
/-! SUPPORT. Tests. Expected results come from spec/95_test_vectors.md (the vector is named beside each), ill-formed terms are
refused, every family has a word written out from the table of R76, and each statement with hypotheses has a witness. -/

namespace Sys2Proof.Tests

open Sys2Proof Sys2Proof.Machine

/-! ### Helpers -/

/-- The eight reads that assemble to `b`, as `ser=` of R83 writes them. -/
def ser (b : Byte) : Vector Level 8 :=
  #v[b.getLsbD 0, b.getLsbD 1, b.getLsbD 2, b.getLsbD 3, b.getLsbD 4, b.getLsbD 5, b.getLsbD 6, b.getLsbD 7]

def inputs (ready : Level) (b : Byte) : Inputs := { ready := ready, ser := ser b, chunk := [] }

/-- The next state of an outcome, if it is one. -/
def after : Outcome → Option State
  | .next t => some t
  | .fault _ => none
  | .refused _ => none

/-- The refusal of an outcome, if it is one. -/
def refusal : Outcome → Option Refusal
  | .next _ => none
  | .fault _ => none
  | .refused r => some r

/-- Variant A after reset. -/
def stateA : State := State.resetOf (Config.defaultsA false)

/-- Variant B after reset. -/
def stateB : State := State.resetOf (Config.defaultsB false)

/-- Variant B settled at `42 42 14 03`, ready. -/
def settledB : State :=
  { stateB with cur := [0x42, 0x42, 0x14, 0x03], last := [0x42, 0x42, 0x14, 0x03], inp := inputs true 0x03 }

/-- Variant B with a built report that has not been sent, flag set (V25). -/
def unsentB : State :=
  { stateB with cur := [0x42, 0x42, 0x14, 0x03], last := [0x42, 0x42, 0x00, 0x00], fb := true, inp := inputs true 0x03 }

/-- Variant A with forced buttons, settled. -/
def forcedA : State :=
  { State.resetOf { Config.defaultsA false with aBtnZero := true } with
    cur := [0x80, 0x42, 0x00], last := [0x80, 0x42, 0x00], inp := inputs true 0x01 }

/-- Variant B with a deferred write outstanding. -/
def pendingB : State := { settledB with wrp := true, fb := true }

/-- Variant A inside a SAMPLE at CK_LO(3) (V42). -/
def insideA : State := { stateA with seq := .ckLo 3, op := some .sample, clk := true, raw := 0x05 }

/-! ### Ill-formed terms are refused -/

theorem test_wf_setrep_absent_in_A : Instr.wf (Config.defaultsA false) .setrep = false := by decide
theorem test_wf_wrchunk_absent_in_A : Instr.wf (Config.defaultsA false) .wrchunk = false := by decide
theorem test_wf_setrep_present_in_B : Instr.wf (Config.defaultsB false) .setrep = true := by decide
theorem test_wf_report_of_wrong_length : Report.wf (Config.defaultsB false) [0x42, 0x42, 0x00] = false := by decide

/-! ### Words of the table of R76 -/

theorem test_decode_sample : decodeOp 0b000#3 = .sample := by decide
theorem test_decode_build : decodeOp 0b001#3 = .build := by decide
theorem test_decode_msend : decodeOp 0b010#3 = .msend := by decide
theorem test_decode_cycle : decodeOp 0b011#3 = .cycle := by decide
theorem test_decode_getrep : decodeOp 0b100#3 = .getrep := by decide
theorem test_decode_setrep : decodeOp 0b101#3 = .setrep := by decide
theorem test_decode_wrchunk : decodeOp 0b110#3 = .wrchunk := by decide
theorem test_decode_unhreq : decodeOp 0b111#3 = .unhreq := by decide
theorem test_decode_refuses_a_fourth_bit : decodeTableWord 8 0b1000 = none := by decide
theorem test_decode_refuses_two_bits : decodeTableWord 2 0b01 = none := by decide

/-! ### Vectors of the spec -/

/-- V6: the reads 1 0 1 0 0 1 0 1 give 0xA5; V3 and V4 follow the same order. -/
theorem test_sample_A5 :
    (after (exec .sample { stateA with inp := { inputs false 0 with ser := #v[true, false, true, false, false, true, false, true] } })).map
      (fun t => (t.result, t.clk, t.load, t.trace.length)) = some (.rawOut 0xA5, false, true, 26) := by decide

/-- V3: only the first read 1 gives 0x01, and the order of the first events is that of V7. -/
theorem test_sample_first_read_is_bit_0 :
    (after (exec .sample { stateB with inp := { inputs false 0 with ser := #v[true, false, false, false, false, false, false, false] } })).map
      (fun t => (t.result, t.trace.take 5)) =
      some (.rawOut 0x01, [.set .load false, .set .load true, .set .clk true, .set .clk false, .read .ser true]) := by decide

/-- V17: axis Z wraps, 240 + 20 = 4 modulo 256. -/
theorem test_build_z_wraps :
    (after (exec .build { stateB with cur := [0x42, 0x42, 0xF0, 0x00], inp := inputs false 0x01 })).map (·.cur) =
      some [0x42, 0x42, 0x04, 0x01] := by decide

/-- V11: forced buttons in variant A; the 26 events still occur. -/
theorem test_build_forced_zero :
    (after (exec .build forcedA)).map (fun t => (t.cur, t.trace.length)) = some ([0x80, 0x42, 0x00], 26) := by decide

/-- V25: a send with the flag set. -/
theorem test_msend_toggles_led :
    (after (exec .msend unsentB)).map (fun t => (t.last, t.ledSt, t.result, t.trace)) =
      some ([0x42, 0x42, 0x14, 0x03], true, .sent true,
        [.sendInterrupt [0x42, 0x42, 0x14, 0x03] 4, .set .ledSt true]) := by decide

/-- V28: refused while the USB layer is not ready. -/
theorem test_msend_not_ready :
    refusal (exec .msend { unsentB with inp := inputs false 0x03 }) = some .usbNotReady := by decide

/-- S7 step 1: the first ready cycle of variant B sends. -/
theorem test_cycle_first_sends :
    (after (exec .cycle { stateB with inp := inputs true 0x00 })).map (fun t => (t.cur, t.last, t.result, t.trace.length)) =
      some ([0x42, 0x42, 0x00, 0x00], [0x42, 0x42, 0x00, 0x00], .sent true, 28) := by decide

/-- V29: not ready, one event and no change. -/
theorem test_cycle_not_ready :
    (after (exec .cycle { settledB with inp := inputs false 0x01 })).map (fun t => (t.cur, t.result, t.trace)) =
      some ([0x42, 0x42, 0x14, 0x03], .sent false, [.read .ready false]) := by decide

/-- P3 line 3: GETREP between build and send gives the old report. -/
theorem test_getrep_returns_last :
    (after (exec .getrep unsentB)).map (·.result) = some (.handled [0x42, 0x42, 0x00, 0x00]) := by decide

/-- V37: not accepted while a deferred write is outstanding. -/
theorem test_getrep_waits :
    (after (exec .getrep pendingB)).map (fun t => (t.result, t.trace)) = some (.notAccepted, []) := by decide

/-- V33. -/
theorem test_setrep_inverts :
    (after (exec .setrep settledB)).map (fun t => (t.fb, t.wrp, t.ledSt, t.result)) =
      some (true, true, false, .deferredWrite) := by decide

/-- V39. -/
theorem test_setrep_absent_in_A : refusal (exec .setrep stateA) = some .absentInVariantA := by decide

/-- V40: a chunk of no bytes completes the write too. -/
theorem test_wrchunk_completes :
    (after (exec .wrchunk pendingB)).map (fun t => (t.fb, t.wrp, t.result)) = some (true, false, .writeComplete) := by decide

/-- V38. -/
theorem test_wrchunk_with_none_outstanding : refusal (exec .wrchunk stateB) = some .noDeferredWrite := by decide

/-- V35: a SET_REPORT in variant A is UNHREQ and does not touch the flag. -/
theorem test_hostreq_set_report_in_A :
    (after (step { stateA with script := [.hostreq { classSpecific := true, type := .setReport } (inputs false 0)] })).map
      (fun t => (t.fb, t.result)) = some (false, .notHandled) := by decide

/-- V36: a non-class request is UNHREQ whatever its type. -/
theorem test_hostreq_not_class :
    (after (step { stateB with script := [.hostreq { classSpecific := false, type := .getReport } (inputs false 0)] })).map
      (fun t => (t.result, t.trace)) = some (.notHandled, [.response .notHandled (some 0)]) := by decide

/-- V42: a reset inside a SAMPLE gives the reset state, the operation abandoned. -/
theorem test_reset_inside_sample :
    after (step { insideA with script := [.reset] }) = some stateA := by decide

/-- One micro-step from CK_LO(3) of V42: the clock falls and the fourth read comes next. -/
theorem test_micro_step_clock_low :
    (after (step { insideA with script := [] })).map (fun t => (t.seq, t.clk, t.trace)) =
      some (.rd 3, false, [.set .clk false]) := by decide

/-- The eighth read of SAMPLE lands in bit 7 and ends the operation (row RD(7) of R36). -/
theorem test_micro_step_last_read :
    (after (step { insideA with seq := .rd 7, clk := false, raw := 0x05, inp := inputs false 0x80 })).map
      (fun t => (t.seq, t.raw, t.result, t.trace)) =
      some (.idle, 0x85, .rawOut 0x85, [.read .ser true]) := by decide

/-- A placed word runs as the first instruction after reset. -/
theorem test_fetch_cycle :
    (after (step (State.reset.withFetchWord 8 3))).map (fun t => (t.result, t.cur)) =
      some (.sent true, [0x42, 0x42, 0x00, 0x00]) := by decide

/-! ### Witnesses of the statements' hypotheses -/

theorem test_witness_OnlyThreeBitWordsAreCommands : (2 < 3) ∧ (3 ≤ 3 ∧ 8 ≤ 8) ∧ (3 ≤ 3 ∧ 7 < 8) := by decide

theorem test_witness_StepRunsThePresentedOperation :
    ({ stateB with script := [.op 0b011 (inputs true 1), .tick] } : State).script = .op 0b011 (inputs true 1) :: [.tick] := rfl

theorem test_witness_PlacedWordRunsNext : decodeTableWord 8 0b011 = some .cycle := by decide

theorem test_witness_HostRequestIsClassified :
    ({ stateB with script := [.hostreq ⟨true, .setReport⟩ (inputs false 0)] } : State).script =
      .hostreq ⟨true, .setReport⟩ (inputs false 0) :: [] := rfl

/-- SampleReadsEightBits, ReadLandsInItsBit, SampleLeavesIdleStateAsItWas. -/
theorem test_witness_sample : unsentB.seq = .idle ∧ unsentB.linesIdle := by decide

/-- BuildComposesTheReport, in each variant. -/
theorem test_witness_BuildComposesTheReport :
    (forcedA.seq = .idle ∧ forcedA.reportsWf ∧ forcedA.cfg.variant = .A) ∧
    (unsentB.seq = .idle ∧ unsentB.reportsWf ∧ unsentB.cfg.variant = .B) := by decide

theorem test_witness_ButtonsByteIsTheSample :
    (stateA.seq = .idle ∧ stateA.reportsWf ∧ stateA.cfg.buttonsSampled = true) ∧
    (unsentB.seq = .idle ∧ unsentB.reportsWf ∧ unsentB.cfg.buttonsSampled = true) := by decide

def buildingB : State := { settledB with script := [inputs false 0x00, inputs false 0x03].map (issue .build) }

theorem test_witness_AxisZCountsChanges :
    buildingB.seq = .idle ∧ buildingB.reportsWf ∧ buildingB.cfg.variant = .B ∧
    buildingB.script = [inputs false 0x00, inputs false 0x03].map (issue .build) := by decide

theorem test_witness_BuildDependsOnCurAndReadsOnly :
    settledB.seq = .idle ∧ unsentB.seq = .idle ∧ settledB.cfg = unsentB.cfg ∧ settledB.cur = unsentB.cur ∧
    settledB.inp.ser = unsentB.inp.ser ∧ settledB.last ≠ unsentB.last ∧ settledB.fb ≠ unsentB.fb := by decide

theorem test_witness_BuildKeepsASettledReport :
    (settledB.seq = .idle ∧ settledB.settled ∧ settledB.buttonsForced ∧ settledB.cfg.buttonsSampled = true ∧
      serByte settledB.inp.ser = byteAt settledB.cur settledB.cfg.btnOff) ∧
    (forcedA.seq = .idle ∧ forcedA.settled ∧ forcedA.buttonsForced ∧ forcedA.cfg.buttonsSampled = false ∧
      serByte forcedA.inp.ser ≠ byteAt forcedA.cur 2) := by decide

theorem test_witness_AxisBytesStayConstant :
    (stateB.reportsWf ∧ (after (exec .build stateB)).isSome = true) ∧
    (unsentB.reportsWf ∧ byteAt unsentB.cur 0 = unsentB.cfg.axisX ∧ byteAt unsentB.cur 1 = unsentB.cfg.axisY ∧
      (after (exec .msend unsentB)).isSome = true) := by decide

/-- MsendSendsADifference, CompareIsByteForByte, MsendIsIdempotent, SendLeavesReportsEqual: reports that differ, and equal ones. -/
theorem test_witness_msend :
    (unsentB.seq = .idle ∧ unsentB.inp.ready = true ∧ unsentB.reportsWf ∧ unsentB.cur ≠ unsentB.last) ∧
    (settledB.seq = .idle ∧ settledB.inp.ready = true ∧ settledB.reportsWf ∧ settledB.cur = settledB.last) := by decide

theorem test_witness_MsendNeedsReady : stateB.seq = .idle ∧ stateB.inp.ready = false := by decide

/-- CycleIsReadyThenBuildThenSend and CycleSendsAtMostOnce: not ready, and ready. -/
theorem test_witness_cycle :
    (stateB.seq = .idle ∧ stateB.inp.ready = false ∧ stateB.reportsWf) ∧
    (unsentB.seq = .idle ∧ unsentB.inp.ready = true ∧ unsentB.reportsWf) := by decide

def drivenB : State := { settledB with script := [issue .setrep (inputs false 0), issue .wrchunk (inputs false 0)] }

theorem test_witness_DriverRunKeepsReportsEqual :
    drivenB.reportsWf ∧ drivenB.seq = .idle ∧ drivenB.cur = drivenB.last ∧ drivenB.script.all isDriverStimulus = true ∧
    (after (runSteps 1 drivenB)).isSome = true := by decide

/-- Variant B with reports at their reset value but flag, LED, `WRP` and events not, ready (V30 after its first line, with a
SETREP between). -/
def freshB : State :=
  { stateB with fb := true, wrp := true, ledSt := true, trace := [.read .ready false], inp := inputs true 0x81 }

theorem test_witness_FirstReadyCycleSends :
    freshB.seq = .idle ∧ freshB.reportsAtReset ∧ freshB.inp.ready = true ∧ freshB.cfg.axisX ≠ 0x00#8 ∧
    freshB.cfg.variant = .B := by decide

/-- P5 lines 1 and 2, with a CYCLE that is not ready between. -/
def earlyB : State :=
  { stateB with
    script := [issue .getrep (inputs false 0), issue .cycle (inputs false 0x81), .hostreq ⟨true, .other⟩ (inputs false 0)] }

theorem test_witness_UntilTheFirstReadyCycleReportsAreAtReset :
    earlyB.seq = .idle ∧ earlyB.reportsAtReset ∧ earlyB.script.all leavesReports = true ∧ sentReports earlyB.trace = [] ∧
    (after (runSteps 3 earlyB)).isSome = true := by decide

def quietB : State := { settledB with script := [inputs true 0x03, inputs false 0x03].map (issue .cycle) }

theorem test_witness_NoChangeNoSend :
    quietB.seq = .idle ∧ quietB.settled ∧ quietB.buttonsForced ∧ quietB.linesIdle ∧
    (∀ inp ∈ [inputs true 0x03, inputs false 0x03], serByte inp.ser = byteAt quietB.cur quietB.cfg.btnOff) ∧
    quietB.script = [inputs true 0x03, inputs false 0x03].map (issue .cycle) := by decide

def changedB : State := { settledB with inp := inputs true 0x00 }

theorem test_witness_ChangeIsSentInItsCycle :
    changedB.seq = .idle ∧ changedB.inp.ready = true ∧ changedB.reportsWf ∧ changedB.cur = changedB.last ∧
    changedB.cfg.buttonsSampled = true ∧ serByte changedB.inp.ser ≠ byteAt changedB.cur changedB.cfg.btnOff ∧
    changedB.cfg.variant = .B := by decide

theorem test_witness_LedTogglesOncePerSend :
    (∀ x ∈ [(Instr.msend, inputs true 0)], x.1.port = .engine) ∧ unsentB.reportsWf ∧
    (after (execAll [(Instr.msend, inputs true 0)] unsentB)).isSome = true := by decide

/-- GetrepExposesLast, SetrepInvertsTheFlag, UnhreqAnswersNotHandled, and the clauses of variant A. -/
theorem test_witness_host_requests :
    (unsentB.seq = .idle ∧ unsentB.wrp = false ∧ unsentB.reportsWf ∧ unsentB.cfg.variant = .B) ∧
    stateA.cfg.variant = .A := by decide

theorem test_witness_WrchunkCompletesTheWrite :
    (pendingB.cfg.variant = .B ∧ pendingB.seq = .idle ∧ pendingB.wrp = true) ∧
    (settledB.cfg.variant = .B ∧ settledB.seq = .idle ∧ settledB.wrp = false) ∧ stateA.cfg.variant = .A := by decide

theorem test_witness_RequestsWaitForTheDeferredWrite :
    pendingB.seq = .idle ∧ pendingB.wrp = true ∧ pendingB.cfg.variant = .B := by decide

/-- HandlerFollowsWrp: an answered request, and one that waits. -/
theorem test_witness_HandlerFollowsWrp :
    (Instr.port .setrep = .host ∧ settledB.seq = .idle ∧
      ((after (exec .setrep settledB)).map (·.result)) = some .deferredWrite) ∧
    (Instr.port .getrep = .host ∧ pendingB.seq = .idle ∧
      ((after (exec .getrep pendingB)).map (·.result)) = some .notAccepted) := by decide

theorem test_witness_EnvironmentMayClearWrp :
    ({ pendingB with script := [.clearWrp] } : State).script = .clearWrp :: [] ∧ pendingB.seq = .idle := ⟨rfl, rfl⟩

theorem test_witness_HostReachesOnlyFlagAndWrp :
    Instr.port .getrep = .host ∧ (after (exec .getrep unsentB)).isSome = true := by decide

/-- HostLearnsOnlyLast: two states that agree on `LAST` and differ in `CUR` and `FB`. -/
theorem test_witness_HostLearnsOnlyLast :
    let u := { unsentB with cur := [0x42, 0x42, 0x00, 0x00], fb := false }
    Instr.port .getrep = .host ∧ unsentB.cfg = u.cfg ∧ unsentB.last = u.last ∧ unsentB.wrp = u.wrp ∧ unsentB.seq = u.seq ∧
    unsentB.cur ≠ u.cur ∧ (after (exec .getrep unsentB)).isSome = true := by decide

theorem test_witness_EngineLeavesTheHandlerAlone :
    Instr.port .cycle = .engine ∧ unsentB.linesIdle ∧ (after (exec .cycle unsentB)).isSome = true := by decide

theorem test_witness_LastChangesOnlyInASend :
    unsentB.reportsWf ∧ (after (exec .msend unsentB)).isSome = true := by decide

theorem test_witness_FlagIsParityOfSetReports :
    Stimulus.reset ∉ drivenB.script ∧ (after (runSteps 1 drivenB)).isSome = true := by decide

theorem test_witness_RefusalsAreExactlyTheNamedOnes :
    Instr.wf stateA.cfg .setrep = false ∧ (Instr.wf insideA.cfg .sample = true ∧ insideA.seq ≠ .idle) ∧
    (Instr.wf stateB.cfg .wrchunk = true ∧ stateB.seq = .idle ∧ stateB.wrp = false) ∧
    (Instr.wf stateB.cfg .build = true ∧ stateB.seq = .idle) := by decide

/-- MicroStepsFollowTheTable: a state at each row. -/
theorem test_witness_MicroStepsFollowTheTable :
    let at' := fun (q : SeqState) (o : Instr) => { unsentB with seq := q, op := some o }
    ((at' .rdy .cycle).seq = .rdy ∧ unsentB.inp.ready = true ∧ stateB.inp.ready = false) ∧ (at' .ldLo .sample).seq = .ldLo ∧
    (at' .ldHi .sample).seq = .ldHi ∧ (at' (.ckHi 7) .sample).seq = .ckHi 7 ∧ (at' (.ckLo 0) .sample).seq = .ckLo 0 ∧
    ((at' (.rd 6) .build).seq = .rd 6 ∧ (7 : Fin 8).val = (6 : Fin 8).val + 1) ∧
    ((at' (.rd 7) .sample).seq = .rd 7 ∧ (at' (.rd 7) .sample).op = some .sample) ∧
    ((at' (.rd 7) .cycle).seq = .rd 7 ∧ (at' (.rd 7) .cycle).op = some .cycle ∧ (at' (.rd 7) .build).op = some .build) ∧
    ((at' .bld .build).op = some .build ∧ (at' .bld .cycle).op = some .cycle) ∧
    ((at' .cmp .msend).reportsWf ∧ (at' .cmp .msend).cur ≠ (at' .cmp .msend).last ∧ settledB.cur = settledB.last) ∧
    ((at' .cpy .msend).reportsWf ∧ (at' .tx .msend).reportsWf) ∧
    ((at' .led .msend).fb = true ∧ settledB.fb = false) := by decide

theorem test_witness_StepTakesMicroSteps :
    ({ insideA with script := [.tick] } : State).script = .tick :: [] ∧ insideA.script = [] ∧
    (stateB.script = [] ∧ stateB.seq = .idle) ∧
    ({ stateB with script := [.start 0b000 (inputs false 5)] } : State).script = .start 0b000 (inputs false 5) :: [] :=
  ⟨rfl, rfl, ⟨rfl, rfl⟩, rfl⟩

theorem test_witness_MicroStepsRefineTheOperations :
    (after (exec .cycle unsentB)).isSome = true ∧ refusal (exec .msend stateB) = some .usbNotReady := by decide

theorem test_witness_ResetEventFromAnyState :
    ({ insideA with script := [.reset] } : State).script = .reset :: [] ∧ insideA.seq ≠ .idle := by decide

theorem test_witness_StepKeepsTheInvariant : State.Inv stateB ∧ (after (step stateB)).isSome = true := by
  unfold State.Inv; decide

/-- IdleBlockHasIdleLines, LastIsMostRecentlySent, VariantAFlagAndLedNeverMove, ParametersNeverChange: a run of one step. -/
theorem test_witness_runs_from_reset :
    (after (runSteps 1 { stateA with script := [issue .cycle (inputs true 1)] })).map (fun t => (t.seq, sentReports t.trace)) =
      some (.idle, [[0x80, 0x42, 0x01]]) ∧ stateA.cfg.variant = .A := by decide

end Sys2Proof.Tests
end

/-! PROOFS (00_scope.md). The rules about micro-steps and parameters come first; the two statements about the sequencer's
refinement (R7, R36, R150) and about the parameters (R8) are settled from them. -/

namespace Sys2Proof.Machine

/-! ### Runs of micro-steps that have come to rest -/

/-- An idle block waits, however many micro-steps go by (R201). -/
theorem State.microSteps_of_idle {s : State} (h : s.seq = .idle) (k : Nat) : State.microSteps k s = s := by
  induction k with
  | zero => rfl
  | succ k ih => rw [State.microSteps, show s.microStep = s by simp [State.microStep, h], ih]

/-- A block that is back at `IDLE` after `j` micro-steps is in the same state after any larger number of them. -/
theorem State.microSteps_of_le {s t : State} {j k : Nat} (h : State.microSteps j s = t) (ht : t.seq = .idle)
    (hjk : j ≤ k) : State.microSteps k s = t := by
  obtain ⟨d, rfl⟩ := Nat.exists_eq_add_of_le hjk
  rw [State.microSteps_add, h, State.microSteps_of_idle ht]

/-! ### The sample, micro-step by micro-step -/

theorem State.enter_goto (s : State) (i : Instr) (q q' : SeqState) : (s.enter i q).goto q' = s.enter i q' := rfl

/-- Where the sequencer goes after the eighth read does not depend on where it stood. -/
theorem State.afterSample_goto (s : State) (q : SeqState) : (s.goto q).afterSample = s.afterSample := by
  simp only [State.afterSample, State.goto_op]
  split <;> rfl

/-- One clock pulse and its read, when another pulse follows (rows `CK_HI`, `CK_LO`, `RD` of R36). -/
theorem State.microSteps_pulse (s : State) {k : Nat} (hk : k < 7) :
    State.microSteps 3 (s.goto (.ckHi ⟨k, by omega⟩)) =
      (s.pulse ⟨k, by omega⟩).goto (.ckHi ⟨k + 1, by omega⟩) :=
  dif_pos hk

/-- The eighth pulse and its read. -/
theorem State.microSteps_lastPulse (s : State) :
    State.microSteps 3 (s.goto (.ckHi 7)) = (s.pulse 7).afterSample :=
  State.afterSample_goto (s.pulse 7) (.rd 7)

/-- Three micro-steps a pulse: after `3 * k` of them the first `k` passes of R100's loop are done. -/
theorem State.microSteps_pulses (s : State) {k : Nat} (hk : k < 8) :
    State.microSteps (3 * k) (s.goto (.ckHi 0)) =
      ((bitOrder.take k).foldl State.pulse s).goto (.ckHi ⟨k, hk⟩) := by
  induction k with
  | zero => rfl
  | succ k ih =>
    have hbit : bitOrder.take (k + 1) = bitOrder.take k ++ [⟨k, by omega⟩] := by
      rw [show bitOrder = List.finRange 8 from rfl, List.take_succ_eq_append_getElem (by simp; omega)]
      simp
    rw [Nat.mul_succ, State.microSteps_add, ih (by omega), State.microSteps_pulse _ (by omega), hbit, List.foldl_append]
    rfl

/-- The 26 micro-steps from `LD_LO` on are the sample and what follows the eighth read (R100). -/
theorem State.microSteps_sample (s : State) :
    State.microSteps 26 (s.goto .ldLo) = s.sample.afterSample := by
  have hload : State.microSteps 2 (s.goto .ldLo) = s.loadLow.loadHigh.goto (.ckHi 0) := rfl
  have hpulses := s.loadLow.loadHigh.microSteps_pulses (k := 7) (by omega)
  rw [show 26 = 2 + (3 * 7 + 3) from rfl, State.microSteps_add, hload, State.microSteps_add, hpulses]
  exact State.microSteps_lastPulse _

/-- The sample neither reads nor writes the operation in progress and the sequencer. -/
theorem State.sample_enter (s : State) (i : Instr) (q : SeqState) : (s.enter i q).sample = s.sample.enter i q := by
  simp only [State.sample_eq]; rfl

/-- The sampling part of an operation `i` in progress, up to where its eighth read leads. -/
theorem State.microSteps_enter_ldLo (s : State) (i : Instr) :
    State.microSteps 26 (s.enter i .ldLo) = (s.sample.enter i .ldLo).afterSample := by
  rw [← State.sample_enter, ← State.microSteps_sample, State.enter_goto]

/-! ### Each engine operation, started and taken to its end -/

theorem State.afterSample_enter_sample (s : State) (q : SeqState) :
    (s.enter .sample q).afterSample = s.complete (.rawOut s.raw) := rfl

theorem State.microStep_afterSample_enter_build (s : State) (q : SeqState) :
    (s.enter .build q).afterSample.microStep = s.writeCur.complete .none := rfl

theorem State.microStep_afterSample_enter_cycle (s : State) (q : SeqState) :
    (s.enter .cycle q).afterSample.microStep = s.writeCur.enter .cycle .cmp := rfl

theorem State.microSteps_enter_sample (s : State) :
    State.microSteps 26 (s.enter .sample .ldLo) = s.sample.complete (.rawOut s.sample.raw) := by
  rw [State.microSteps_enter_ldLo, State.afterSample_enter_sample]

theorem State.microSteps_enter_build (s : State) :
    State.microSteps 27 (s.enter .build .ldLo) = s.sample.writeCur.complete .none := by
  rw [State.microSteps_add 26 1, State.microSteps_enter_ldLo, State.microSteps_one,
    State.microStep_afterSample_enter_build]

theorem State.toggleLed_of_set {s : State} (h : s.fb = true) : s.toggleLed = s.setLedSt (!s.ledSt) := if_pos h

theorem State.toggleLed_of_clear {s : State} (h : s.fb = false) : s.toggleLed = s := if_neg (by simp [h])

/-- The last micro-step of a send ends alike whatever operation is in progress. -/
theorem State.toggleLed_enter_complete (s : State) (i : Instr) (q : SeqState) (r : Result) :
    (s.enter i q).toggleLed.complete r = s.toggleLed.complete r := by
  cases h : s.fb with
  | false => rw [State.toggleLed_of_clear h, State.toggleLed_of_clear (s := s.enter i q) h]; rfl
  | true => rw [State.toggleLed_of_set h, State.toggleLed_of_set (s := s.enter i q) h]; rfl

/-- From `CMP` on, four micro-steps are the body of MSEND; with equal reports the block is idle after the first (R140). -/
theorem State.microSteps_maybeSend (s : State) (i : Instr) :
    State.microSteps 4 (s.enter i .cmp) = s.maybeSend := by
  have hcmp : (s.enter i .cmp).microStep = if s.changed then s.enter i .cpy else s.complete (.sent false) := rfl
  cases hd : s.changed with
  | false =>
    rw [State.maybeSend_of_equal hd, State.microSteps, hcmp, hd]
    exact State.microSteps_of_idle rfl 3
  | true =>
    rw [State.maybeSend_of_changed hd, State.microSteps, hcmp, hd]
    exact s.copyToLast.transmit.toggleLed_enter_complete i .led (.sent true)

/-- A CYCLE that finds `READY = 1` takes 32 micro-steps when it sends (R145, R150). -/
theorem State.microSteps_enter_cycle_of_ready {s : State} (h : s.inp.ready = true) :
    State.microSteps 32 (s.enter .cycle .rdy) = s.sampleReady.sample.writeCur.maybeSend := by
  have hrdy : State.microSteps 1 (s.enter .cycle .rdy) = s.sampleReady.enter .cycle .ldLo := if_pos h
  rw [show 32 = 1 + (26 + (1 + 4)) from rfl, State.microSteps_add, hrdy, State.microSteps_add,
    State.microSteps_enter_ldLo, State.microSteps_add, State.microSteps_one, State.microStep_afterSample_enter_cycle,
    State.microSteps_maybeSend]

/-- A CYCLE that finds `READY = 0` ends in its first micro-step (R145). -/
theorem State.microSteps_enter_cycle_of_not_ready {s : State} (h : s.inp.ready = false) :
    State.microSteps 1 (s.enter .cycle .rdy) = s.sampleReady.complete (.sent false) :=
  if_neg (by simp [h])

theorem State.microSteps_enter_cycle (s : State) : State.microSteps 32 (s.enter .cycle .rdy) = s.cycleBody := by
  cases h : s.inp.ready with
  | false =>
    rw [show s.cycleBody = s.sampleReady.complete (.sent false) from if_neg (by simp [h])]
    exact State.microSteps_of_le (State.microSteps_enter_cycle_of_not_ready h) rfl (by omega)
  | true =>
    rw [show s.cycleBody = s.sampleReady.sample.writeCur.maybeSend from if_pos h]
    exact State.microSteps_enter_cycle_of_ready h

theorem State.maybeSend_seq (s : State) : s.maybeSend.seq = .idle := by
  unfold State.maybeSend; split <;> rfl

/-! ### The refinement -/

/-- The answer `atOnce` of an operation is refined by the answer `started` of starting it: the same refusals, and where it
completes, 32 micro-steps from the started state give the same state. -/
def RefinedBy (atOnce started : Outcome) : Prop :=
  (∀ t, atOnce = .next t → ∃ u, started = .next u ∧ State.microSteps 32 u = t) ∧
    (∀ r, atOnce = .refused r → started = .refused r)

/-- An engine operation, which no request holds up: admitted alike, it is refined if its micro-steps give its body. -/
theorem RefinedBy.of_admitted {s body first : State} {a : Admission} (ha : a ≠ .hold) {j : Nat}
    (hrun : State.microSteps j first = body) (hidle : body.seq = .idle) (hj : j ≤ 32) :
    RefinedBy (s.admitted a body) (s.admitted a first) := by
  cases a with
  | accept =>
    refine ⟨fun t ht => ⟨first, rfl, ?_⟩, fun r hr => nomatch hr⟩
    cases ht
    exact State.microSteps_of_le hrun hidle hj
  | hold => exact absurd rfl ha
  | refuse r => exact ⟨fun t ht => (nomatch ht), fun _ hr => hr⟩

/-- A host operation is its one micro-step, so it is refined by itself: it ends, and a request is held, in an idle block. -/
theorem RefinedBy.refl_of_admitted {s body : State} {a : Admission} (ha : a = .hold → s.seq = .idle)
    (hidle : body.seq = .idle) : RefinedBy (s.admitted a body) (s.admitted a body) := by
  refine ⟨fun t ht => ⟨t, ht, State.microSteps_of_idle ?_ 32⟩, fun _ hr => hr⟩
  obtain ⟨-, rfl⟩ | ⟨hhold, rfl⟩ := State.admitted_next ht
  · exact hidle
  · exact ha hhold

/-- Settles O44: each engine operation by the count of its micro-steps, each host operation by its one. -/
theorem microStepsRefineTheOperations : Obligations.MicroStepsRefineTheOperations := by
  intro i s
  change RefinedBy (exec i s) (startOp i s)
  cases i with
  | sample => exact .of_admitted s.admitEngine_ne_hold s.microSteps_enter_sample rfl (by omega)
  | build => exact .of_admitted s.admitEngine_ne_hold s.microSteps_enter_build rfl (by omega)
  | msend => exact .of_admitted s.admitSend_ne_hold (s.microSteps_maybeSend .msend) s.maybeSend_seq (by omega)
  | cycle =>
    have hidle : s.cycleBody.seq = .idle := by
      unfold State.cycleBody; split
      · exact State.maybeSend_seq _
      · rfl
    exact .of_admitted s.admitEngine_ne_hold s.microSteps_enter_cycle hidle le_rfl
  | getrep => exact .refl_of_admitted (fun h => (State.admitRequest_hold.mp h).1) rfl
  | setrep => exact .refl_of_admitted (fun h => (State.admitSetReport_hold.mp h).2.1) rfl
  | wrchunk => exact .refl_of_admitted (fun h => absurd h s.admitChunk_ne_hold) rfl
  | unhreq => exact .refl_of_admitted (fun h => (State.admitRequest_hold.mp h).1) rfl

/-! ### The parameters -/

@[simp] theorem State.sample_cfg (s : State) : s.sample.cfg = s.cfg := by rw [State.sample_eq]

@[simp] theorem State.toggleLed_cfg (s : State) : s.toggleLed.cfg = s.cfg := by
  unfold State.toggleLed; split <;> rfl

@[simp] theorem State.maybeSend_cfg (s : State) : s.maybeSend.cfg = s.cfg := by
  unfold State.maybeSend; split <;> simp

@[simp] theorem State.cycleBody_cfg (s : State) : s.cycleBody.cfg = s.cfg := by
  unfold State.cycleBody; split <;> simp [State.sampleReady]

@[simp] theorem State.afterSample_cfg (s : State) : s.afterSample.cfg = s.cfg := by
  unfold State.afterSample; split <;> rfl

@[simp] theorem State.afterBuild_cfg (s : State) : s.afterBuild.cfg = s.cfg := by
  unfold State.afterBuild; split <;> rfl

@[simp] theorem State.readStep_cfg (s : State) (i : Fin 8) : (s.readStep i).cfg = s.cfg := by
  unfold State.readStep; split <;> simp

/-- No row of R36 writes a parameter. -/
@[simp] theorem State.microStep_cfg (s : State) : s.microStep.cfg = s.cfg := by
  unfold State.microStep
  split
  case h_1 | h_3 | h_4 | h_5 | h_6 | h_10 | h_11 => rfl
  case h_2 => split <;> rfl
  case h_7 i _ => exact s.readStep_cfg i
  case h_8 => exact s.writeCur.afterBuild_cfg
  case h_9 => split <;> rfl
  case h_12 => simp

/-- An admitted operation keeps the parameters if its body does. -/
theorem State.admitted_cfg {s body t : State} {a : Admission} (hbody : body.cfg = s.cfg)
    (h : s.admitted a body = .next t) : t.cfg = s.cfg := by
  obtain ⟨-, rfl⟩ | ⟨-, rfl⟩ := State.admitted_next h
  · exact hbody
  · rfl

/-- No operation writes a parameter. -/
theorem exec_cfg {i : Instr} {s t : State} (h : exec i s = .next t) : t.cfg = s.cfg := by
  cases i with
  | sample => exact State.admitted_cfg (by simp) h
  | build => exact State.admitted_cfg (by simp) h
  | msend => exact State.admitted_cfg s.maybeSend_cfg h
  | cycle => exact State.admitted_cfg s.cycleBody_cfg h
  | getrep => exact State.admitted_cfg (body := s.exposeLast) rfl h
  | setrep => exact State.admitted_cfg (body := s.deferWrite) rfl h
  | wrchunk => exact State.admitted_cfg (body := s.finishWrite) rfl h
  | unhreq => exact State.admitted_cfg (body := s.answerNotHandled) rfl h

/-- Starting an operation writes no parameter: an engine operation only enters, a host operation is done. -/
theorem startOp_cfg {i : Instr} {s t : State} (h : startOp i s = .next t) : t.cfg = s.cfg := by
  cases i with
  | sample => exact State.admitted_cfg (s.enter_cfg .sample .ldLo) h
  | build => exact State.admitted_cfg (s.enter_cfg .build .ldLo) h
  | msend => exact State.admitted_cfg (s.enter_cfg .msend .cmp) h
  | cycle => exact State.admitted_cfg (s.enter_cfg .cycle .rdy) h
  | getrep => exact exec_cfg (i := .getrep) h
  | setrep => exact exec_cfg (i := .setrep) h
  | wrchunk => exact exec_cfg (i := .wrchunk) h
  | unhreq => exact exec_cfg (i := .unhreq) h

/-- No act of an issuer or of the environment writes a parameter, RESET included. -/
theorem stimulate_cfg {x : Stimulus} {s t : State} (h : stimulate x s = .next t) : t.cfg = s.cfg := by
  cases x with
  | op code inp => exact exec_cfg (i := decodeOp code) (s := s.withInputs inp) h
  | start code inp => exact startOp_cfg (i := decodeOp code) (s := s.withInputs inp) h
  | hostreq req inp => exact exec_cfg (i := classify s.cfg req) (s := s.withInputs inp) h
  | tick => cases h; exact s.microStep_cfg
  | clearWrp =>
    simp only [stimulate, State.clearWrpEvent] at h
    split at h
    · cases h; rfl
    · cases h
  | reset => cases h; rfl

/-- Settles O52: a step is one stimulus or, with none to come, one micro-step. -/
theorem parametersNeverChange : Obligations.ParametersNeverChange := by
  intro s t h
  unfold step at h
  split at h
  · cases h; exact s.microStep_cfg
  next x rest _ => exact stimulate_cfg (x := x) (s := { s with script := rest }) h

end Sys2Proof.Machine

/-! PROOFS (10_state.md). First what one micro-step can do: an equation per row of the table of R36, and the rows as one relation
by which the parts of the invariant are proved. Then the operations taken at once, the invariant over steps and runs, and the
statements about `LAST`, the flag and the driver's runs. -/

namespace Sys2Proof.Machine

/-! ### The rows of R36, one equation each -/

section Rows

variable {s : State}

theorem State.microStep_idle (hq : s.seq = .idle) : s.microStep = s := by
  simp only [State.microStep, hq]

theorem State.microStep_rdy_ready (hq : s.seq = .rdy) (hr : s.inp.ready = true) :
    s.microStep = s.sampleReady.goto .ldLo := by
  simp only [State.microStep, hq, hr, if_true]

theorem State.microStep_rdy_not_ready (hq : s.seq = .rdy) (hr : s.inp.ready = false) :
    s.microStep = s.sampleReady.complete (.sent false) := by
  simp only [State.microStep, hq, hr, Bool.false_eq_true, if_false]

theorem State.microStep_ldLo (hq : s.seq = .ldLo) : s.microStep = s.loadLow.goto .ldHi := by
  simp only [State.microStep, hq]

theorem State.microStep_ldHi (hq : s.seq = .ldHi) : s.microStep = s.loadHigh.goto (.ckHi 0) := by
  simp only [State.microStep, hq]

theorem State.microStep_ckHi {i : Fin 8} (hq : s.seq = .ckHi i) : s.microStep = s.clockHigh.goto (.ckLo i) := by
  simp only [State.microStep, hq]

theorem State.microStep_ckLo {i : Fin 8} (hq : s.seq = .ckLo i) : s.microStep = s.clockLow.goto (.rd i) := by
  simp only [State.microStep, hq]

/-- A read that another pulse follows. -/
theorem State.microStep_rd_next {i j : Fin 8} (hq : s.seq = .rd i) (hj : j.val = i.val + 1) :
    s.microStep = (s.sampleBit i).goto (.ckHi j) := by
  have hi : i.val < 7 := by omega
  have hnext : j = ⟨i.val + 1, by omega⟩ := Fin.ext hj
  simp only [State.microStep, hq, State.readStep, dif_pos hi, hnext]

theorem State.microStep_rd_last (hq : s.seq = .rd 7) : s.microStep = (s.sampleBit 7).afterSample := by
  simp only [State.microStep, hq]; rfl

theorem State.microStep_bld (hq : s.seq = .bld) : s.microStep = s.writeCur.afterBuild := by
  simp only [State.microStep, hq]

theorem State.microStep_cmp_changed (hq : s.seq = .cmp) (hd : s.changed = true) : s.microStep = s.goto .cpy := by
  simp only [State.microStep, hq, hd, if_true]

theorem State.microStep_cmp_equal (hq : s.seq = .cmp) (hd : s.changed = false) :
    s.microStep = s.complete (.sent false) := by
  simp only [State.microStep, hq, hd, Bool.false_eq_true, if_false]

theorem State.microStep_cpy (hq : s.seq = .cpy) : s.microStep = s.copyToLast.goto .tx := by
  simp only [State.microStep, hq]

theorem State.microStep_tx (hq : s.seq = .tx) : s.microStep = s.transmit.goto .led := by
  simp only [State.microStep, hq]

theorem State.microStep_led (hq : s.seq = .led) : s.microStep = s.toggleLed.complete (.sent true) := by
  simp only [State.microStep, hq]

/-! Where the eighth read and the write of `CUR` lead, by the operation in progress. -/

theorem State.afterSample_of_sample (ho : s.op = some .sample) : s.afterSample = s.complete (.rawOut s.raw) := by
  simp only [State.afterSample, ho]

theorem State.afterSample_of_builds (ho : s.op = some .build ∨ s.op = some .cycle) : s.afterSample = s.goto .bld := by
  rcases ho with ho | ho <;> simp only [State.afterSample, ho]

/-- An operation that builds no report ends with the sample, SAMPLE with its result. -/
theorem State.afterSample_of_not_builds (ho : ¬ (s.op = some .build ∨ s.op = some .cycle)) :
    ∃ r, s.afterSample = s.complete r ∧ (s.op = some .sample → r = .rawOut s.raw) := by
  by_cases hs : s.op = some .sample
  · exact ⟨_, State.afterSample_of_sample hs, fun _ => rfl⟩
  · refine ⟨.none, ?_, fun h => absurd h hs⟩
    unfold State.afterSample
    split
    case h_1 h => exact absurd h hs
    case h_2 h => exact absurd (.inl h) ho
    case h_3 h => exact absurd (.inr h) ho
    all_goals rfl

theorem State.afterBuild_of_cycle (ho : s.op = some .cycle) : s.afterBuild = s.goto .cmp := by
  simp only [State.afterBuild, ho]

theorem State.afterBuild_of_ne_cycle (ho : s.op ≠ some .cycle) : s.afterBuild = s.complete .none := by
  unfold State.afterBuild
  split
  case h_1 hc => exact absurd hc ho
  all_goals rfl

end Rows

/-! ### The rows as one relation -/

/-- `s.Row t`: a row of R36 leads from `s` to `t`; one constructor per row and outcome, with the condition under which it is
taken. -/
inductive State.Row (s : State) : State → Prop
  | wait (hq : s.seq = .idle) : s.Row s
  | ready (hq : s.seq = .rdy) (hr : s.inp.ready = true) : s.Row (s.sampleReady.goto .ldLo)
  | notReady (hq : s.seq = .rdy) (hr : s.inp.ready = false) : s.Row (s.sampleReady.complete (.sent false))
  | loadLow (hq : s.seq = .ldLo) : s.Row (s.loadLow.goto .ldHi)
  | loadHigh (hq : s.seq = .ldHi) : s.Row (s.loadHigh.goto (.ckHi 0))
  | clockHigh (i : Fin 8) (hq : s.seq = .ckHi i) : s.Row (s.clockHigh.goto (.ckLo i))
  | clockLow (i : Fin 8) (hq : s.seq = .ckLo i) : s.Row (s.clockLow.goto (.rd i))
  | read (i j : Fin 8) (hq : s.seq = .rd i) (hj : j.val = i.val + 1) : s.Row ((s.sampleBit i).goto (.ckHi j))
  | sampleEnds (r : Result) (hq : s.seq = .rd 7) (ho : ¬ (s.op = some .build ∨ s.op = some .cycle))
      (hr : s.op = some .sample → r = .rawOut (s.sampleBit 7).raw) : s.Row ((s.sampleBit 7).complete r)
  | sampleBuilds (hq : s.seq = .rd 7) (ho : s.op = some .build ∨ s.op = some .cycle) :
      s.Row ((s.sampleBit 7).goto .bld)
  | buildEnds (hq : s.seq = .bld) (ho : s.op ≠ some .cycle) : s.Row (s.writeCur.complete .none)
  | buildCompares (hq : s.seq = .bld) (ho : s.op = some .cycle) : s.Row (s.writeCur.goto .cmp)
  | changed (hq : s.seq = .cmp) (hd : s.changed = true) : s.Row (s.goto .cpy)
  | equal (hq : s.seq = .cmp) (hd : s.changed = false) : s.Row (s.complete (.sent false))
  | copy (hq : s.seq = .cpy) : s.Row (s.copyToLast.goto .tx)
  | send (hq : s.seq = .tx) : s.Row (s.transmit.goto .led)
  | ledToggles (hq : s.seq = .led) (hf : s.fb = true) : s.Row ((s.setLedSt (!s.ledSt)).complete (.sent true))
  | ledStays (hq : s.seq = .led) (hf : s.fb = false) : s.Row (s.complete (.sent true))

/-- Every micro-step is a row. -/
theorem State.microStep_row (s : State) : s.Row s.microStep := by
  cases hq : s.seq with
  | idle => rw [State.microStep_idle hq]; exact .wait hq
  | rdy =>
    cases hr : s.inp.ready with
    | false => rw [State.microStep_rdy_not_ready hq hr]; exact .notReady hq hr
    | true => rw [State.microStep_rdy_ready hq hr]; exact .ready hq hr
  | ldLo => rw [State.microStep_ldLo hq]; exact .loadLow hq
  | ldHi => rw [State.microStep_ldHi hq]; exact .loadHigh hq
  | ckHi i => rw [State.microStep_ckHi hq]; exact .clockHigh i hq
  | ckLo i => rw [State.microStep_ckLo hq]; exact .clockLow i hq
  | rd i =>
    by_cases hi : i.val < 7
    · rw [State.microStep_rd_next (j := ⟨i.val + 1, by omega⟩) hq rfl]; exact .read i _ hq rfl
    · obtain rfl : i = 7 := Fin.ext (by simp; omega)
      rw [State.microStep_rd_last hq]
      by_cases ho : s.op = some .build ∨ s.op = some .cycle
      · rw [State.afterSample_of_builds (s := s.sampleBit 7) ho]; exact .sampleBuilds hq ho
      · obtain ⟨r, hend, hr⟩ := State.afterSample_of_not_builds (s := s.sampleBit 7) ho
        rw [hend]; exact .sampleEnds r hq ho hr
  | bld =>
    rw [State.microStep_bld hq]
    by_cases ho : s.op = some .cycle
    · rw [State.afterBuild_of_cycle (s := s.writeCur) ho]; exact .buildCompares hq ho
    · rw [State.afterBuild_of_ne_cycle (s := s.writeCur) ho]; exact .buildEnds hq ho
  | cmp =>
    cases hd : s.changed with
    | false => rw [State.microStep_cmp_equal hq hd]; exact .equal hq hd
    | true => rw [State.microStep_cmp_changed hq hd]; exact .changed hq hd
  | cpy => rw [State.microStep_cpy hq]; exact .copy hq
  | tx => rw [State.microStep_tx hq]; exact .send hq
  | led =>
    rw [State.microStep_led hq]
    cases hf : s.fb with
    | false => rw [State.toggleLed_of_clear hf]; exact .ledStays hq hf
    | true => rw [State.toggleLed_of_set hf]; exact .ledToggles hq hf

/-! ### What every row keeps -/

/-- The handler's registers, the parameters, the inputs, the earlier events and the stimuli are those of `s`. -/
structure State.SameHandler (s t : State) : Prop where
  fb : t.fb = s.fb
  wrp : t.wrp = s.wrp
  cfg : t.cfg = s.cfg
  inp : t.inp = s.inp
  earlier : t.earlier = s.earlier
  script : t.script = s.script

section RowKeeps

variable {s t : State}

/-- The sequencer writes none of the handler's registers (R23, R29). -/
theorem State.Row.sameHandler (h : s.Row t) : s.SameHandler t := by
  cases h <;> exact ⟨rfl, rfl, rfl, rfl, rfl, rfl⟩

/-- Only the build writes `CUR` and only the copy writes `LAST`, both in canonical form. -/
theorem State.Row.reportsWf (h : s.Row t) (hwf : s.reportsWf) : t.reportsWf := by
  cases h with
  | buildEnds | buildCompares => exact State.writeCur_reportsWf hwf
  | copy => exact State.copyToLast_reportsWf hwf
  | _ => exact hwf

/-- The load pulse and the clock pulses move the lines to the levels of the next row; every other row goes between rows with
idle levels (R36, R39). -/
theorem State.Row.linesMatch (h : s.Row t) (hl : s.linesMatch) : t.linesMatch := by
  cases h with
  | wait => exact hl
  | loadLow hq => rw [State.linesMatch, hq] at hl; exact ⟨hl.1, rfl⟩
  | loadHigh hq => rw [State.linesMatch, hq] at hl; exact ⟨hl.1, rfl⟩
  | clockHigh i hq => rw [State.linesMatch, hq] at hl; exact ⟨rfl, hl.2⟩
  | clockLow i hq => rw [State.linesMatch, hq] at hl; exact ⟨rfl, hl.2⟩
  | ready hq | notReady hq | read _ _ hq | sampleEnds _ hq | sampleBuilds hq | buildEnds hq | buildCompares hq
  | changed hq | equal hq | copy hq | send hq | ledToggles hq | ledStays hq =>
    rw [State.linesMatch, hq] at hl; exact hl

/-- A row goes on to a row of the same operation, or ends it. -/
theorem State.Row.belongsTo (h : s.Row t) (hb : s.seq.belongsTo s.op = true) : t.seq.belongsTo t.op = true := by
  cases h with
  | wait => exact hb
  | notReady | sampleEnds | buildEnds | equal | ledToggles | ledStays => rfl
  | loadLow hq | loadHigh hq | clockHigh _ hq | clockLow _ hq | read _ _ hq | changed hq | copy hq | send hq =>
    rw [hq] at hb; exact hb
  | ready hq =>
    rw [hq] at hb
    have ho : s.op = some .cycle := by simpa [SeqState.belongsTo] using hb
    change SeqState.belongsTo .ldLo s.op = true
    rw [ho]; rfl
  | sampleBuilds hq ho =>
    change SeqState.belongsTo .bld s.op = true
    rcases ho with ho | ho <;> rw [ho] <;> rfl
  | buildCompares hq ho =>
    change SeqState.belongsTo .cmp s.op = true
    rw [ho]; rfl

/-- Only a compare that found a difference leads to the copy. -/
theorem State.Row.copyJustified (h : s.Row t) (hwf : s.reportsWf) (hj : s.copyJustified) : t.copyJustified := by
  cases h with
  | wait => exact hj
  | changed _ hd => exact fun _ => (State.changed_iff hwf).mp hd
  | _ => exact fun hq => nomatch hq

/-- The LED moves only with `FB` set, which variant A never has. -/
theorem State.Row.variantAStill (h : s.Row t) (hA : s.variantAStill) : t.variantAStill := by
  cases h with
  | ledToggles _ hf =>
    intro hv
    obtain ⟨hclear, -, -⟩ := hA hv
    exact absurd (hclear.symm.trans hf) (by decide)
  | _ => exact hA

/-- The parameters, `LAST` and the reports sent so far are those of `s`. -/
structure State.SameSent (s t : State) : Prop where
  cfg : t.cfg = s.cfg
  last : t.last = s.last
  sent : sentReports t.trace = sentReports s.trace

/-- Away from the moment between copy and send, `LAST` stays what was sent last while neither changes. -/
theorem State.lastIsSent_of_sameSent (hsame : s.SameSent t) (hs : s.seq ≠ .tx) (ht : t.seq ≠ .tx)
    (h : s.lastIsSent) : t.lastIsSent := by
  rw [State.lastIsSent, if_neg hs] at h
  rw [State.lastIsSent, if_neg ht, hsame.last, h, State.mostRecentlySent, State.mostRecentlySent, hsame.sent, hsame.cfg]

theorem sentReports_snoc (es : List Event) {e : Event} (he : e.sentReport = none) :
    sentReports (es ++ [e]) = sentReports es := by
  simp [sentReports_append, sentReports_cons, he]

theorem sentReports_snoc_snoc (es : List Event) {e₁ e₂ : Event} (h₁ : e₁.sentReport = none) (h₂ : e₂.sentReport = none) :
    sentReports (es ++ [e₁] ++ [e₂]) = sentReports es :=
  (sentReports_snoc _ h₂).trans (sentReports_snoc _ h₁)

/-- Only the copy writes `LAST` and only the transmission sends. -/
theorem State.Row.sameSent (h : s.Row t) (hcpy : s.seq ≠ .cpy) (htx : s.seq ≠ .tx) : s.SameSent t := by
  cases h with
  | copy hq => exact absurd hq hcpy
  | send hq => exact absurd hq htx
  | wait | buildEnds | buildCompares | changed | equal | ledStays => exact ⟨rfl, rfl, rfl⟩
  | ready | notReady | loadLow | loadHigh | clockHigh | clockLow | read | sampleEnds | sampleBuilds | ledToggles =>
    exact ⟨rfl, rfl, sentReports_snoc _ rfl⟩

/-- Only the copy leads to the transmission. -/
theorem State.Row.seq_ne_tx (h : s.Row t) (hcpy : s.seq ≠ .cpy) (htx : s.seq ≠ .tx) : t.seq ≠ .tx := by
  cases h with
  | wait => exact htx
  | copy hq => exact absurd hq hcpy
  | _ => exact fun hq => nomatch hq

end RowKeeps

/-- After the transmission `LAST` is the report most recently sent. -/
theorem State.transmit_mostRecentlySent {s : State} (hwf : s.reportsWf) : s.transmit.mostRecentlySent = s.last := by
  have hread := memRead_all (Report.wf_iff.mp hwf.2)
  simp [State.mostRecentlySent, sentReports_append, sentReports_cons, Event.sentReport, hread]

/-- The copy and the send, which log 20 separates, together keep `LAST` the report most recently sent (R37). -/
theorem State.microStep_lastIsSent {s : State} (hwf : s.reportsWf) (h : s.lastIsSent) : s.microStep.lastIsSent := by
  by_cases hcpy : s.seq = .cpy
  · rw [State.microStep_cpy hcpy, State.copyToLast_eq hwf]
    exact if_pos rfl |>.mpr rfl
  by_cases htx : s.seq = .tx
  · rw [State.microStep_tx htx]
    exact (State.transmit_mostRecentlySent hwf).symm
  exact State.lastIsSent_of_sameSent (s.microStep_row.sameSent hcpy htx) htx (s.microStep_row.seq_ne_tx hcpy htx) h

/-- Every micro-step keeps the invariant. -/
theorem State.Inv.microStep {s : State} (h : s.Inv) : s.microStep.Inv := by
  obtain ⟨hwf, hlines, hop, hsent, hcpy, hA⟩ := h
  have hrow := s.microStep_row
  exact ⟨hrow.reportsWf hwf, hrow.linesMatch hlines, hrow.belongsTo hop, State.microStep_lastIsSent hwf hsent,
    hrow.copyJustified hwf hcpy, hrow.variantAStill hA⟩

/-! ### From micro-steps to operations taken at once -/

theorem State.microSteps_keeps {P : State → Prop} (hP : ∀ u, P u → P u.microStep) (k : Nat) {s : State} (hs : P s) :
    P (State.microSteps k s) := by
  induction k generalizing s with
  | zero => exact hs
  | succ k ih => exact ih (hP s hs)

/-- What holds of the operation as started and is kept by every micro-step holds where the operation taken at once ends. -/
theorem exec_keeps {P : State → Prop} {i : Instr} {s t : State} (hstart : ∀ u, startOp i s = .next u → P u)
    (hmicro : ∀ u, P u → P u.microStep) (h : exec i s = .next t) : P t := by
  obtain ⟨u, hu, rfl⟩ := (microStepsRefineTheOperations i s).1 t h
  exact State.microSteps_keeps hmicro 32 (hstart u hu)

/-- What holds of the body, if it is admitted, and of the held request holds of the answer. -/
theorem State.admitted_keeps {P : State → Prop} {s body t : State} {a : Admission} (hbody : a = .accept → P body)
    (hhold : a = .hold → P s.notAccept) (h : s.admitted a body = .next t) : P t := by
  obtain ⟨ha, rfl⟩ | ⟨ha, rfl⟩ := State.admitted_next h
  · exact hbody ha
  · exact hhold ha

/-- An operation that no request holds up has answered because it was accepted. -/
theorem State.admitted_next_of_ne_hold {s body t : State} {a : Admission} (ha : a ≠ .hold)
    (h : s.admitted a body = .next t) : a = .accept ∧ t = body :=
  (State.admitted_next h).resolve_right fun hhold => ha hhold.1

theorem State.cycleBody_of_ready {s : State} (h : s.inp.ready = true) :
    s.cycleBody = s.sampleReady.sample.writeCur.maybeSend := if_pos h

theorem State.cycleBody_of_not_ready {s : State} (h : s.inp.ready = false) :
    s.cycleBody = s.sampleReady.complete (.sent false) := if_neg (by simp [h])

theorem State.cycleBody_seq (s : State) : s.cycleBody.seq = .idle := by
  cases hr : s.inp.ready with
  | false => rw [State.cycleBody_of_not_ready hr]; rfl
  | true => rw [State.cycleBody_of_ready hr]; exact State.maybeSend_seq _

/-- An engine operation is admitted from an idle block only, and then started by entering its first micro-step, where the lines
have their idle levels. -/
theorem startOp_engine {i : Instr} {s u : State} (hi : i.port = .engine) (h : startOp i s = .next u) :
    s.seq = .idle ∧ ∃ q, u = s.enter i q ∧ q.belongsTo (some i) = true ∧ (q = .rdy ∨ q = .ldLo ∨ q = .cmp) := by
  cases i with
  | sample =>
    obtain ⟨ha, rfl⟩ := State.admitted_next_of_ne_hold s.admitEngine_ne_hold h
    exact ⟨State.admitEngine_accept.mp ha, .ldLo, rfl, rfl, .inr (.inl rfl)⟩
  | build =>
    obtain ⟨ha, rfl⟩ := State.admitted_next_of_ne_hold s.admitEngine_ne_hold h
    exact ⟨State.admitEngine_accept.mp ha, .ldLo, rfl, rfl, .inr (.inl rfl)⟩
  | msend =>
    obtain ⟨ha, rfl⟩ := State.admitted_next_of_ne_hold s.admitSend_ne_hold h
    exact ⟨(State.admitSend_accept.mp ha).1, .cmp, rfl, rfl, .inr (.inr rfl)⟩
  | cycle =>
    obtain ⟨ha, rfl⟩ := State.admitted_next_of_ne_hold s.admitEngine_ne_hold h
    exact ⟨State.admitEngine_accept.mp ha, .rdy, rfl, rfl, .inl rfl⟩
  | getrep | setrep | wrchunk | unhreq => cases hi

/-- What a request handler's answer holds of: each body, under its entry condition, and the held request. -/
theorem exec_host_keeps {P : State → Prop} {i : Instr} {s t : State} (hi : i.port = .host)
    (hget : s.seq = .idle → P s.exposeLast) (hset : s.cfg.variant = .B → s.seq = .idle → P s.deferWrite)
    (hchunk : s.cfg.variant = .B → s.seq = .idle → P s.finishWrite) (hunh : s.seq = .idle → P s.answerNotHandled)
    (hheld : s.seq = .idle → P s.notAccept) (h : exec i s = .next t) : P t := by
  cases i with
  | getrep =>
    exact State.admitted_keeps (fun ha => hget (State.admitRequest_accept.mp ha).1)
      (fun ha => hheld (State.admitRequest_hold.mp ha).1) h
  | setrep =>
    refine State.admitted_keeps (fun ha => ?_) (fun ha => hheld (State.admitSetReport_hold.mp ha).2.1) h
    obtain ⟨hv, hidle, -⟩ := State.admitSetReport_accept.mp ha
    exact hset (Params.hasSetrep_iff.mp hv) hidle
  | wrchunk =>
    refine State.admitted_keeps (fun ha => ?_) (fun ha => absurd ha s.admitChunk_ne_hold) h
    obtain ⟨hv, hidle, -⟩ := State.admitChunk_accept.mp ha
    exact hchunk (Params.hasSetrep_iff.mp hv) hidle
  | unhreq =>
    exact State.admitted_keeps (fun ha => hunh (State.admitRequest_accept.mp ha).1)
      (fun ha => hheld (State.admitRequest_hold.mp ha).1) h
  | sample | build | msend | cycle => cases hi

/-- Starting a host operation is the operation. -/
theorem startOp_host {i : Instr} (hi : i.port = .host) (s : State) : startOp i s = exec i s := by
  cases i with
  | getrep | setrep | wrchunk | unhreq => rfl
  | sample | build | msend | cycle => cases hi

/-- Every operation that answers leaves the sequencer idle. -/
theorem exec_seq {i : Instr} {s t : State} (h : exec i s = .next t) : t.seq = .idle := by
  cases i with
  | sample => obtain ⟨-, rfl⟩ := State.admitted_next_of_ne_hold s.admitEngine_ne_hold h; rfl
  | build => obtain ⟨-, rfl⟩ := State.admitted_next_of_ne_hold s.admitEngine_ne_hold h; rfl
  | msend => obtain ⟨-, rfl⟩ := State.admitted_next_of_ne_hold s.admitSend_ne_hold h; exact s.maybeSend_seq
  | cycle => obtain ⟨-, rfl⟩ := State.admitted_next_of_ne_hold s.admitEngine_ne_hold h; exact s.cycleBody_seq
  | getrep | setrep | wrchunk | unhreq =>
    exact exec_host_keeps (P := fun u => u.seq = .idle) rfl (fun _ => rfl) (fun _ _ => rfl) (fun _ _ => rfl)
      (fun _ => rfl) id h

/-! ### The invariant over operations, steps and runs -/

/-- From an idle block: a state with the same reports and sends keeps the invariant if its lines, its operation in progress and
variant A's registers do, and neither copy nor send is next. -/
theorem State.Inv.of_idle {s t : State} (h : s.Inv) (hidle : s.seq = .idle) (hcur : t.cur = s.cur) (hsame : s.SameSent t)
    (hlines : t.linesMatch) (hop : t.seq.belongsTo t.op = true) (hcpy : t.seq ≠ .cpy) (htx : t.seq ≠ .tx)
    (hA : t.variantAStill) : t.Inv := by
  obtain ⟨hwf, -, -, hsent, -, -⟩ := h
  refine ⟨?_, hlines, hop, State.lastIsSent_of_sameSent hsame (by simp [hidle]) htx hsent, fun hq => absurd hq hcpy, hA⟩
  rw [State.reportsWf, hcur, hsame.last, hsame.cfg]; exact hwf

theorem State.Inv.linesIdle {s : State} (h : s.Inv) (hidle : s.seq = .idle) : s.linesIdle := by
  obtain ⟨-, hlines, -⟩ := h
  rw [State.linesMatch, hidle] at hlines
  exact hlines

theorem State.Inv.variantAStill {s : State} (h : s.Inv) : s.variantAStill := by
  obtain ⟨-, -, -, -, -, hA⟩ := h
  exact hA

/-- A host operation keeps the invariant; the flag and `WRP` move in variant B only. -/
theorem exec_host_inv {i : Instr} {s t : State} (hi : i.port = .host) (hs : s.Inv) (h : exec i s = .next t) : t.Inv := by
  have hA := hs.variantAStill
  refine exec_host_keeps hi (fun hidle => ?_) (fun hB hidle => ?_) (fun hB hidle => ?_) (fun hidle => ?_) (fun _ => hs) h
  · exact hs.of_idle hidle rfl ⟨rfl, rfl, sentReports_snoc_snoc _ rfl rfl⟩ (hs.linesIdle hidle) rfl nofun nofun hA
  · exact hs.of_idle hidle rfl ⟨rfl, rfl, sentReports_snoc_snoc _ rfl rfl⟩ (hs.linesIdle hidle) rfl nofun nofun
      fun hv => nomatch hB.symm.trans hv
  · exact hs.of_idle hidle rfl ⟨rfl, rfl, sentReports_snoc _ rfl⟩ (hs.linesIdle hidle) rfl nofun nofun
      fun hv => nomatch hB.symm.trans hv
  · exact hs.of_idle hidle rfl ⟨rfl, rfl, sentReports_snoc _ rfl⟩ (hs.linesIdle hidle) rfl nofun nofun hA

/-- Starting an operation keeps the invariant: the first micro-step of an engine operation has the idle levels. -/
theorem startOp_inv {i : Instr} {s u : State} (hs : s.Inv) (h : startOp i s = .next u) : u.Inv := by
  cases hi : i.port with
  | host => rw [startOp_host hi] at h; exact exec_host_inv hi hs h
  | engine =>
    obtain ⟨hidle, q, rfl, hop, hq⟩ := startOp_engine hi h
    have hlines := hs.linesIdle hidle
    rcases hq with rfl | rfl | rfl <;>
      exact hs.of_idle hidle rfl ⟨rfl, rfl, rfl⟩ hlines hop nofun nofun hs.variantAStill

theorem exec_inv {i : Instr} {s t : State} (hs : s.Inv) (h : exec i s = .next t) : t.Inv :=
  exec_keeps (fun _ => startOp_inv hs) (fun _ => State.Inv.microStep) h

/-- The reset state meets the invariant, for all parameters. -/
theorem State.resetOf_inv (p : Params) : (State.resetOf p).Inv :=
  ⟨State.resetOf_reportsWf p, ⟨rfl, rfl⟩, rfl, rfl, nofun, fun _ => ⟨rfl, rfl, rfl⟩⟩

/-- Settles O47: the inputs, the earlier events and the stimuli to come are no part of the invariant. -/
theorem invariantHoldsAtReset : Obligations.InvariantHoldsAtReset :=
  ⟨State.resetOf_inv Config.params, fun p _ => State.resetOf_inv p⟩

theorem stimulate_inv {x : Stimulus} {s t : State} (hs : s.Inv) (h : stimulate x s = .next t) : t.Inv := by
  cases x with
  | op code inp => exact exec_inv (s := s.withInputs inp) hs h
  | start code inp => exact startOp_inv (s := s.withInputs inp) hs h
  | hostreq req inp => exact exec_inv (s := s.withInputs inp) hs h
  | tick => cases h; exact hs.microStep
  | clearWrp =>
    simp only [stimulate, State.clearWrpEvent] at h
    split at h
    · cases h
      obtain ⟨hwf, hlines, hop, hsent, hcpy, hA⟩ := hs
      refine ⟨hwf, hlines, hop, hsent, hcpy, fun hv => ?_⟩
      obtain ⟨hfb, -, hled⟩ := hA hv
      exact ⟨hfb, rfl, hled⟩
    · cases h
  | reset => cases h; exact State.resetOf_inv s.cfg

/-- Settles O48: by the rows of R36 for a micro-step, and for an operation taken at once by its micro-steps. -/
theorem stepKeepsTheInvariant : Obligations.StepKeepsTheInvariant := by
  intro s t hs h
  unfold step at h
  split at h
  · cases h; exact hs.microStep
  next x rest _ => exact stimulate_inv (x := x) (s := { s with script := rest }) hs h

/-! ### Runs from reset -/

/-- A run from reset has the invariant and the parameters it began with. -/
theorem runSteps_resetOf {p : Params} {xs : List Stimulus} {k : Nat} {t : State}
    (h : runSteps k { State.resetOf p with script := xs } = .next t) : t.Inv ∧ t.cfg = p := by
  refine runSteps_keeps (P := fun u => u.Inv ∧ u.cfg = p) (fun s u hs hstep => ?_) ?_ h
  · obtain ⟨hinv, hcfg⟩ := hs
    exact ⟨stepKeepsTheInvariant s u hinv hstep, (parametersNeverChange s u hstep).trans hcfg⟩
  · exact ⟨State.resetOf_inv p, rfl⟩

/-- Settles O49, from the levels of the invariant at `IDLE`. -/
theorem idleBlockHasIdleLines : Obligations.IdleBlockHasIdleLines :=
  fun _ _ _ _ h hidle => (runSteps_resetOf h).1.linesIdle hidle

/-- Settles O50: by whether the events hold a send. -/
theorem lastIsMostRecentlySent : Obligations.LastIsMostRecentlySent := by
  intro p xs k t h htx
  obtain ⟨⟨-, -, -, hsent, -, -⟩, rfl⟩ := runSteps_resetOf h
  rw [State.lastIsSent, if_neg htx, State.mostRecentlySent] at hsent
  cases hlast : (sentReports t.trace).getLast? with
  | none =>
    rw [hlast] at hsent
    exact .inl ⟨List.getLast?_eq_none_iff.mp hlast, hsent⟩
  | some r =>
    rw [hlast] at hsent
    exact .inr (congrArg some hsent.symm)

/-- Settles O51, from variant A's part of the invariant. -/
theorem variantAFlagAndLedNeverMove : Obligations.VariantAFlagAndLedNeverMove := by
  intro p xs k t hA h
  obtain ⟨hinv, rfl⟩ := runSteps_resetOf h
  exact hinv.variantAStill hA

/-! ### Sends and `CUR = LAST` -/

/-- A maybe-send leaves `CUR = LAST`, since it copies exactly when they differ (R38). -/
theorem State.maybeSend_cur_eq_last {s : State} (hwf : s.reportsWf) : s.maybeSend.cur = s.maybeSend.last := by
  obtain ⟨heq, hs⟩ | ⟨-, -, hs⟩ | ⟨-, -, hs⟩ := State.maybeSend_cases hwf <;> rw [hs]
  · exact heq

/-- The part of CYCLE before its compare keeps both reports in form. -/
theorem State.sampleReady_sample_writeCur_reportsWf {s : State} (hwf : s.reportsWf) :
    s.sampleReady.sample.writeCur.reportsWf := by
  rw [State.sample_eq]
  exact State.writeCur_reportsWf (s := { s with raw := _, clk := _, load := _, trace := _ }) hwf

/-- Settles O22: MSEND is a maybe-send, and a ready CYCLE ends with one. -/
theorem sendLeavesReportsEqual : Obligations.SendLeavesReportsEqual := by
  rintro i s (rfl | rfl) hidle hready hwf
  · refine ⟨s.maybeSend, ?_, State.maybeSend_cur_eq_last hwf⟩
    change s.admitted s.admitSend s.maybeSend = _
    rw [State.admitSend_accept.mpr ⟨hidle, hready⟩, State.admitted_accept]
  · refine ⟨s.cycleBody, ?_, ?_⟩
    · change s.admitted s.admitEngine s.cycleBody = _
      rw [State.admitEngine_accept.mpr hidle, State.admitted_accept]
    · rw [State.cycleBody_of_ready hready]
      exact State.maybeSend_cur_eq_last (State.sampleReady_sample_writeCur_reportsWf hwf)

/-- `t` comes after `s` with events that hold no send, and with the same `LAST`; or with one send, of the new `LAST`, which
is `CUR`. -/
def State.SendsItsLast (s t : State) : Prop :=
  ∃ es, t.trace = s.trace ++ es ∧
    ((sentReports es = [] ∧ t.last = s.last) ∨ (sentReports es = [t.last] ∧ t.last = t.cur))

theorem State.SendsItsLast.of_quiet {s t : State} {es : List Event} (htrace : t.trace = s.trace ++ es)
    (hes : sentReports es = []) (hlast : t.last = s.last) : s.SendsItsLast t :=
  ⟨es, htrace, .inl ⟨hes, hlast⟩⟩

/-- What comes before without a send does not matter. -/
theorem State.SendsItsLast.after_quiet {s u t : State} {es : List Event} (h : u.SendsItsLast t)
    (htrace : u.trace = s.trace ++ es) (hes : sentReports es = []) (hlast : u.last = s.last) : s.SendsItsLast t := by
  obtain ⟨es', ht, hsends⟩ := h
  refine ⟨es ++ es', by rw [ht, htrace, List.append_assoc], ?_⟩
  rw [sentReports_append, hes, List.nil_append, ← hlast]
  exact hsends

theorem State.maybeSend_sendsItsLast {s : State} (hwf : s.reportsWf) : s.SendsItsLast s.maybeSend := by
  obtain ⟨-, hs⟩ | ⟨-, -, hs⟩ | ⟨-, -, hs⟩ := State.maybeSend_cases hwf <;> rw [hs]
  · exact .of_quiet (List.append_nil _).symm rfl rfl
  · exact ⟨_, rfl, .inr ⟨rfl, rfl⟩⟩
  · exact ⟨_, rfl, .inr ⟨rfl, rfl⟩⟩

theorem State.cycleBody_sendsItsLast {s : State} (hwf : s.reportsWf) : s.SendsItsLast s.cycleBody := by
  cases hr : s.inp.ready with
  | false => rw [State.cycleBody_of_not_ready hr]; exact .of_quiet rfl rfl rfl
  | true =>
    rw [State.cycleBody_of_ready hr]
    refine (State.maybeSend_sendsItsLast (State.sampleReady_sample_writeCur_reportsWf hwf)).after_quiet
      (es := .read .ready s.inp.ready :: sampleEvents s.inp.ser) ?_ ?_ ?_
    · rw [State.sample_writeCur_eq]; simp [State.sampleReady]
    · rw [sentReports_cons, sentReports_sampleEvents]; rfl
    · rw [State.sample_writeCur_eq]; rfl

/-- Settles O39: only a maybe-send sends, after events of the sample that are no sends. -/
theorem lastChangesOnlyInASend : Obligations.LastChangesOnlyInASend := by
  intro i s t hwf h
  change s.SendsItsLast t
  cases i with
  | sample =>
    obtain ⟨-, rfl⟩ := State.admitted_next_of_ne_hold s.admitEngine_ne_hold h
    rw [State.sample_eq]; exact .of_quiet rfl (sentReports_sampleEvents _) rfl
  | build =>
    obtain ⟨-, rfl⟩ := State.admitted_next_of_ne_hold s.admitEngine_ne_hold h
    rw [State.sample_writeCur_eq]; exact .of_quiet rfl (sentReports_sampleEvents _) rfl
  | msend =>
    obtain ⟨-, rfl⟩ := State.admitted_next_of_ne_hold s.admitSend_ne_hold h
    exact State.maybeSend_sendsItsLast hwf
  | cycle =>
    obtain ⟨-, rfl⟩ := State.admitted_next_of_ne_hold s.admitEngine_ne_hold h
    exact State.cycleBody_sendsItsLast hwf
  | getrep | setrep | wrchunk | unhreq =>
    exact exec_host_keeps rfl (fun _ => .of_quiet (List.append_assoc _ _ _) rfl rfl)
      (fun _ _ => .of_quiet (List.append_assoc _ _ _) rfl rfl) (fun _ _ => .of_quiet rfl rfl rfl)
      (fun _ => .of_quiet rfl rfl rfl) (fun _ => .of_quiet (List.append_nil _).symm rfl rfl) h

/-! ### The registers of the handler and the lines over an engine operation -/

theorem State.SameHandler.trans {s t u : State} (h₁ : s.SameHandler t) (h₂ : t.SameHandler u) : s.SameHandler u :=
  ⟨h₂.fb.trans h₁.fb, h₂.wrp.trans h₁.wrp, h₂.cfg.trans h₁.cfg, h₂.inp.trans h₁.inp, h₂.earlier.trans h₁.earlier,
    h₂.script.trans h₁.script⟩

theorem exec_engine_sameHandler {i : Instr} {s t : State} (hi : i.port = .engine) (h : exec i s = .next t) :
    s.SameHandler t := by
  refine exec_keeps (P := s.SameHandler) (fun u hu => ?_) (fun u hu => hu.trans u.microStep_row.sameHandler) h
  obtain ⟨-, q, rfl, -⟩ := startOp_engine hi hu
  exact ⟨rfl, rfl, rfl, rfl, rfl, rfl⟩

/-- Begun with idle lines, an engine operation ends with idle lines: every micro-step leaves them at the levels of the next. -/
theorem exec_engine_linesIdle {i : Instr} {s t : State} (hi : i.port = .engine) (hl : s.linesIdle)
    (h : exec i s = .next t) : t.linesIdle := by
  have hmatch : t.linesMatch := by
    refine exec_keeps (P := State.linesMatch) (fun u hu => ?_) (fun u => u.microStep_row.linesMatch) h
    obtain ⟨-, q, rfl, -, rfl | rfl | rfl⟩ := startOp_engine hi hu <;> exact hl
  rw [State.linesMatch, exec_seq h] at hmatch
  exact hmatch

/-- Settles O38: no row of R36 writes a register of the handler, and the lines are back at the levels of `IDLE`. -/
theorem engineLeavesTheHandlerAlone : Obligations.EngineLeavesTheHandlerAlone := by
  intro i s t hi h
  obtain ⟨hfb, hwrp, hcfg, hinp, hearlier, hscript⟩ := exec_engine_sameHandler hi h
  exact ⟨hfb, hwrp, hcfg, hinp, hearlier, hscript, exec_seq h, fun hl => exec_engine_linesIdle hi hl h⟩

/-! ### The driver's runs -/

/-- What holds at every operation boundary of the driver's runs: an idle block with well-formed, equal reports, and only the
driver's stimuli to come (R38, R191). -/
structure State.AtDriverBoundary (s : State) : Prop where
  wf : s.reportsWf
  idle : s.seq = .idle
  equal : s.cur = s.last
  driver : s.script.all isDriverStimulus = true

/-- A maybe-send ends at a boundary, equal reports or not. -/
theorem State.maybeSend_atDriverBoundary {s : State} (hwf : s.reportsWf) (hs : s.script.all isDriverStimulus = true) :
    s.maybeSend.AtDriverBoundary := by
  obtain ⟨heq, h⟩ | ⟨-, -, h⟩ | ⟨-, -, h⟩ := State.maybeSend_cases hwf <;> rw [h]
  · exact ⟨hwf, rfl, heq, hs⟩
  · exact ⟨⟨hwf.1, hwf.1⟩, rfl, rfl, hs⟩
  · exact ⟨⟨hwf.1, hwf.1⟩, rfl, rfl, hs⟩

theorem State.cycleBody_atDriverBoundary {s : State} (h : s.AtDriverBoundary) : s.cycleBody.AtDriverBoundary := by
  obtain ⟨hwf, -, heq, hs⟩ := h
  cases hr : s.inp.ready with
  | false => rw [State.cycleBody_of_not_ready hr]; exact ⟨hwf, rfl, heq, hs⟩
  | true =>
    rw [State.cycleBody_of_ready hr]
    refine State.maybeSend_atDriverBoundary (State.sampleReady_sample_writeCur_reportsWf hwf) ?_
    rw [State.sample_writeCur_eq]; exact hs

/-- No host operation writes a report. -/
theorem exec_host_atDriverBoundary {i : Instr} {s t : State} (hi : i.port = .host) (hs : s.AtDriverBoundary)
    (h : exec i s = .next t) : t.AtDriverBoundary := by
  obtain ⟨hwf, hidle, heq, hscript⟩ := hs
  exact exec_host_keeps hi (fun _ => ⟨hwf, rfl, heq, hscript⟩) (fun _ _ => ⟨hwf, rfl, heq, hscript⟩)
    (fun _ _ => ⟨hwf, rfl, heq, hscript⟩) (fun _ => ⟨hwf, rfl, heq, hscript⟩) (fun _ => ⟨hwf, hidle, heq, hscript⟩) h

theorem exec_cycle_atDriverBoundary {s t : State} (hs : s.AtDriverBoundary) (h : exec .cycle s = .next t) :
    t.AtDriverBoundary := by
  obtain ⟨-, rfl⟩ := State.admitted_next_of_ne_hold s.admitEngine_ne_hold h
  exact State.cycleBody_atDriverBoundary hs

/-- A classified request is a host operation (R79). -/
theorem classify_port (p : Params) (r : Request) : (classify p r).port = .host := by
  unfold classify
  split
  · rfl
  · split
    · rfl
    · split <;> rfl
    · rfl

theorem State.resetEvent_atDriverBoundary {s : State} (hs : s.script.all isDriverStimulus = true) :
    s.resetEvent.AtDriverBoundary :=
  ⟨State.resetOf_reportsWf s.cfg, rfl, rfl, hs⟩

theorem stimulate_atDriverBoundary {x : Stimulus} {s t : State} (hx : isDriverStimulus x = true) (hs : s.AtDriverBoundary)
    (h : stimulate x s = .next t) : t.AtDriverBoundary := by
  have hinputs : ∀ inp, (s.withInputs inp).AtDriverBoundary := fun _ => ⟨hs.wf, hs.idle, hs.equal, hs.driver⟩
  cases x with
  | op code inp =>
    have hop : decodeOp code = .cycle ∨ (decodeOp code).port = .host := by simpa [isDriverStimulus] using hx
    rcases hop with hcycle | hhost
    · refine exec_cycle_atDriverBoundary (hinputs inp) ?_
      rw [← hcycle]; exact h
    · exact exec_host_atDriverBoundary hhost (hinputs inp) h
  | start => cases hx
  | hostreq req inp => exact exec_host_atDriverBoundary (classify_port s.cfg req) (hinputs inp) h
  | tick => cases h; rw [State.microStep_idle hs.idle]; exact hs
  | clearWrp =>
    simp only [stimulate, State.clearWrpEvent, if_pos hs.idle] at h
    cases h
    exact ⟨hs.wf, hs.idle, hs.equal, hs.driver⟩
  | reset => cases h; exact State.resetEvent_atDriverBoundary hs.driver

theorem step_atDriverBoundary {s t : State} (hs : s.AtDriverBoundary) (h : step s = .next t) : t.AtDriverBoundary := by
  unfold step at h
  split at h
  · cases h; rw [State.microStep_idle hs.idle]; exact hs
  next x rest hscript =>
    have hall := hs.driver
    rw [hscript, List.all_cons, Bool.and_eq_true] at hall
    obtain ⟨hx, hrest⟩ := hall
    exact stimulate_atDriverBoundary (s := { s with script := rest }) hx ⟨hs.wf, hs.idle, hs.equal, hrest⟩ h

/-- Settles O23: each step of a driver's run goes from boundary to boundary. -/
theorem driverRunKeepsReportsEqual : Obligations.DriverRunKeepsReportsEqual := by
  intro s t k hwf hidle heq hscript h
  have ht := runSteps_keeps (fun _ _ => step_atDriverBoundary) ⟨hwf, hidle, heq, hscript⟩ h
  exact ⟨ht.equal, ht.idle⟩

/-! ### The table of micro-steps, the step and reset, as listed -/

/-- Settles O43, from the two branches of `step` and the wait of an idle block. -/
theorem stepTakesMicroSteps : Obligations.StepTakesMicroSteps := by
  intro s rest
  have hempty (h : s.script = []) : step s = .next s.microStep := by simp only [step, h]
  refine ⟨fun h => ?_, hempty, fun h hidle => ?_, fun code inp h => ?_⟩
  · simp only [step, h, stimulate]
  · rw [hempty h, State.microStep_idle hidle]
  · simp only [step, h, stimulate]; rfl

/-- Settles O46: each byte of `N` copies of 0x00 is 0x00. -/
theorem resetValuesAsListed : Obligations.ResetValuesAsListed := by
  intro p
  have hbyte (k : Nat) (hk : k < p.n) : (List.replicate p.n 0x00#8)[k]? = some 0x00#8 := by simp [hk]
  exact ⟨fun k hk => ⟨hbyte k hk, hbyte k hk⟩, State.resetOf_reportsWf p, rfl, rfl, rfl, rfl, rfl, rfl⟩

/-- The rows of the reads, as O42 lists them: the bit written, and where the read leads. -/
theorem State.microStep_rd {s : State} {i : Fin 8} (hq : s.seq = .rd i) :
    ∃ b, (∀ k : Fin 8, b.getLsbD k.val = if k = i then s.inp.ser[i] else s.raw.getLsbD k.val) ∧
      (∀ j : Fin 8, j.val = i.val + 1 →
        s.microStep = { s with raw := b, seq := .ckHi j, trace := s.trace ++ [.read .ser s.inp.ser[i]] }) ∧
      (i = 7 → s.op = some .sample →
        s.microStep = { s with
          raw := b, seq := .idle, op := none, result := .rawOut b, trace := s.trace ++ [.read .ser s.inp.ser[i]] }) ∧
      (i = 7 → s.op = some .build ∨ s.op = some .cycle →
        s.microStep = { s with raw := b, seq := .bld, trace := s.trace ++ [.read .ser s.inp.ser[i]] }) := by
  refine ⟨setBit s.raw i s.inp.ser[i], fun k => setBit_getLsbD _ _ _ _, fun j hj => State.microStep_rd_next hq hj, ?_, ?_⟩
  · rintro rfl ho
    rw [State.microStep_rd_last hq, State.afterSample_of_sample (s := s.sampleBit 7) ho]; rfl
  · rintro rfl ho
    rw [State.microStep_rd_last hq, State.afterSample_of_builds (s := s.sampleBit 7) ho]; rfl

/-- Settles O42, row by row. -/
theorem microStepsFollowTheTable : Obligations.MicroStepsFollowTheTable := by
  intro s
  refine ⟨fun hq hr => ?rdy, fun hq hr => ?notReady, State.microStep_ldLo, State.microStep_ldHi,
    fun i => State.microStep_ckHi, fun i => State.microStep_ckLo, fun i => State.microStep_rd, fun hq ho => ?bldCycle,
    fun hq ho => ?bldBuild, fun hq hwf hd => ?cmpDiffer, fun hq hwf hd => ?cmpEqual, fun hq hwf => ?cpy, fun hq hwf => ?tx,
    fun hq hf => ?ledOn, fun hq hf => ?ledOff⟩
  case rdy => rw [State.microStep_rdy_ready hq hr, State.sampleReady, hr]; rfl
  case notReady => rw [State.microStep_rdy_not_ready hq hr, State.sampleReady, hr]; rfl
  case bldCycle => rw [State.microStep_bld hq, State.afterBuild_of_cycle (s := s.writeCur) ho]; rfl
  case bldBuild =>
    rw [State.microStep_bld hq, State.afterBuild_of_ne_cycle (s := s.writeCur) (by simp [ho])]; rfl
  case cmpDiffer => rw [State.microStep_cmp_changed hq ((State.changed_iff hwf).mpr hd)]; rfl
  case cmpEqual =>
    have hchanged : s.changed = false := Bool.eq_false_iff.mpr fun hc => (State.changed_iff hwf).mp hc hd
    rw [State.microStep_cmp_equal hq hchanged]; rfl
  case cpy => rw [State.microStep_cpy hq, State.copyToLast_eq hwf]; rfl
  case tx => rw [State.microStep_tx hq, State.transmit, memRead_all (Report.wf_iff.mp hwf.2)]; rfl
  case ledOn => rw [State.microStep_led hq, State.toggleLed_of_set hf]; rfl
  case ledOff => rw [State.microStep_led hq, State.toggleLed_of_clear hf]; rfl

end Sys2Proof.Machine

/-! PROOFS (30_encoding.md). The command port: the decoder and the encoder (R76, R80), what one step makes of each form in
which an operation is presented (R79, R83), and runs of operations presented by their codes (R62). -/

namespace Sys2Proof.Machine

/-! ### The decoder and the encoder -/

@[simp] theorem decodeOp_encode (i : Instr) : decodeOp (encode i) = i := by
  cases i <;> rfl

@[simp] theorem encode_decodeOp (w : OpCode) : encode (decodeOp w) = w := by
  revert w; decide

theorem decodeWord_of_short {nbits : Nat} (h : nbits < 3) (w : Nat) : decodeWord nbits w = .error .shorterThanCmd3 := by
  simp [decodeWord, commandCode, h]

theorem decodeWord_of_outside {nbits w : Nat} (hn : 3 ≤ nbits) (hw : 8 ≤ w) :
    decodeWord nbits w = .error .bitOutsideCmd3 := by
  simp [decodeWord, commandCode, Nat.not_lt.mpr hn, hw]

theorem decodeWord_of_cmd3 {nbits w : Nat} (hn : 3 ≤ nbits) (hw : w < 8) :
    decodeWord nbits w = .ok (decodeOp (BitVec.ofNat 3 w)) := by
  simp [decodeWord, commandCode, Nat.not_lt.mpr hn, Nat.not_le.mpr hw]

/-- A table word that names an operation puts a code of that operation on the port. -/
theorem decodeOp_portCode {nbits w : Nat} {i : Instr} (h : decodeTableWord nbits w = some i) :
    decodeOp (portCode nbits w) = i := by
  unfold decodeTableWord decodeWord at h
  unfold portCode
  cases hc : commandCode nbits w with
  | ok c => rw [hc] at h; exact Option.some.inj h
  | error e => rw [hc] at h; cases h

/-- Settles O1, from the lemma of each operation. -/
theorem codesNameTheirOperations : Obligations.CodesNameTheirOperations :=
  ⟨Laws.CodeOnPort.sample, Laws.CodeOnPort.build, Laws.CodeOnPort.msend, Laws.CodeOnPort.cycle, Laws.CodeOnPort.getrep,
    Laws.CodeOnPort.setrep, Laws.CodeOnPort.wrchunk, Laws.CodeOnPort.unhreq⟩

/-- Settles O2, from the two inverse laws. -/
theorem codesAndOperationsCorrespond : Obligations.CodesAndOperationsCorrespond :=
  ⟨decodeOp_encode, encode_decodeOp⟩

/-- Settles O3: the operation a number below 8 names is encoded by that number, as the encoder inverts the decoder. -/
theorem onlyThreeBitWordsAreCommands : Obligations.OnlyThreeBitWordsAreCommands := by
  intro nbits w
  refine ⟨fun h => decodeWord_of_short h w, decodeWord_of_outside, fun hn hw => ⟨_, decodeWord_of_cmd3 hn hw, ?_⟩⟩
  rw [encode_decodeOp, BitVec.toNat_ofNat, Nat.mod_eq_of_lt hw]

/-! ### One step, by the form in which the operation is presented -/

section Presented

variable {s : State} {inp : Inputs} {rest : List Stimulus}

theorem step_of_op {code : OpCode} (h : s.script = .op code inp :: rest) :
    step s = exec (decodeOp code) { s with script := rest, inp := inp } := by
  rw [step, h]; rfl

theorem step_of_hostreq {req : Request} (h : s.script = .hostreq req inp :: rest) :
    step s = exec (classify s.cfg req) { s with script := rest, inp := inp } := by
  rw [step, h]; rfl

end Presented

/-- The classification in the lines of R79. -/
theorem classify_eq (p : Params) (r : Request) :
    classify p r =
      if r.classSpecific = false then .unhreq
      else if r.type = .getReport then .getrep
      else if r.type = .setReport ∧ p.hasSetrep = true then .setrep
      else .unhreq := by
  obtain ⟨classSpecific, type⟩ := r
  cases classSpecific with
  | false => rfl
  | true => cases type <;> simp [classify]

/-- Settles O4, from what a step makes of a presented code. -/
theorem stepRunsThePresentedOperation : Obligations.StepRunsThePresentedOperation :=
  fun _ _ _ _ => step_of_op

/-- Settles O5: the word stands as the next stimulus, by a code of its operation. -/
theorem placedWordRunsNext : Obligations.PlacedWordRunsNext := by
  intro s nbits w i h
  rw [State.withFetchWord_eq, step_of_op (s.present_script _ _), decodeOp_portCode h]
  rfl

/-- Settles O7, from what a step makes of a request and from the lines of R79. -/
theorem hostRequestIsClassified : Obligations.HostRequestIsClassified := by
  intro s req inp rest h
  rw [step_of_hostreq h, classify_eq]

/-! ### No operation reads or writes the stimuli to come -/

/-- The state with other stimuli to come. -/
def State.withScript (s : State) (q : List Stimulus) : State := { s with script := q }

/-- The answer `o`, carried on by `f` where it is a next state. -/
def Outcome.andThen (o : Outcome) (f : State → Outcome) : Outcome :=
  match o with
  | .next t => f t
  | .fault r => .fault r
  | .refused r => .refused r

/-- The answer `o` with other stimuli to come in its next state. -/
def Outcome.withScript (o : Outcome) (q : List Stimulus) : Outcome := Outcome.andThen o fun t => .next (t.withScript q)

theorem Outcome.withScript_andThen (o : Outcome) (q : List Stimulus) (f : State → Outcome) :
    Outcome.andThen (Outcome.withScript o q) f = Outcome.andThen o fun t => f (t.withScript q) := by
  cases o <;> rfl

section Script

variable (s : State) (q : List Stimulus)

theorem State.sample_withScript : (s.withScript q).sample = s.sample.withScript q := by
  simp only [State.sample_eq]; rfl

theorem State.toggleLed_withScript : (s.withScript q).toggleLed = s.toggleLed.withScript q := by
  cases h : s.fb with
  | false => rw [State.toggleLed_of_clear h, State.toggleLed_of_clear (s := s.withScript q) h]
  | true => rw [State.toggleLed_of_set h, State.toggleLed_of_set (s := s.withScript q) h]; rfl

theorem State.maybeSend_withScript : (s.withScript q).maybeSend = s.maybeSend.withScript q := by
  cases h : s.changed with
  | false => rw [State.maybeSend_of_equal h, State.maybeSend_of_equal (s := s.withScript q) h]; rfl
  | true =>
    have hled := s.copyToLast.transmit.toggleLed_withScript q
    rw [State.maybeSend_of_changed h, State.maybeSend_of_changed (s := s.withScript q) h]
    exact congrArg (State.complete · (.sent true)) hled

theorem State.cycleBody_withScript : (s.withScript q).cycleBody = s.cycleBody.withScript q := by
  cases h : s.inp.ready with
  | false => rw [State.cycleBody_of_not_ready h, State.cycleBody_of_not_ready (s := s.withScript q) h]; rfl
  | true =>
    have hsample := s.sampleReady.sample_withScript q
    rw [State.cycleBody_of_ready h, State.cycleBody_of_ready (s := s.withScript q) h, ← State.maybeSend_withScript]
    exact congrArg (·.writeCur.maybeSend) hsample

variable {s q}

/-- Admitted alike, an operation answers alike up to the stimuli to come if its body does. -/
theorem State.admitted_withScript {body body' : State} (a : Admission) (h : body' = body.withScript q) :
    (s.withScript q).admitted a body' = Outcome.withScript (s.admitted a body) q := by
  subst h
  cases a <;> rfl

variable (s q)

/-- No operation reads or writes the stimuli to come: with others, it gives the same answer, with those in its next state. -/
theorem exec_withScript (i : Instr) : exec i (s.withScript q) = Outcome.withScript (exec i s) q := by
  cases i with
  | sample =>
    refine State.admitted_withScript s.admitEngine ?_
    rw [State.sample_withScript]; rfl
  | build =>
    refine State.admitted_withScript s.admitEngine ?_
    rw [State.sample_withScript]; rfl
  | msend => exact State.admitted_withScript s.admitSend (s.maybeSend_withScript q)
  | cycle => exact State.admitted_withScript s.admitEngine (s.cycleBody_withScript q)
  | getrep => exact State.admitted_withScript (body := s.exposeLast) s.admitRequest rfl
  | setrep => exact State.admitted_withScript (body := s.deferWrite) s.admitSetReport rfl
  | wrchunk => exact State.admitted_withScript (body := s.finishWrite) s.admitChunk rfl
  | unhreq => exact State.admitted_withScript (body := s.answerNotHandled) s.admitRequest rfl

end Script

/-! ### Runs of operations presented by their codes -/

theorem runSteps_succ_eq (k : Nat) (s : State) : runSteps (k + 1) s = Outcome.andThen (step s) (runSteps k) := by
  simp only [runSteps, Host.Core.run, show Sys2Proof.core.step s = step s from rfl]
  cases step s <;> rfl

theorem execAll_cons (i : Instr) (inp : Inputs) (prog : List (Instr × Inputs)) (s : State) :
    execAll ((i, inp) :: prog) s = Outcome.andThen (exec i (s.withInputs inp)) (execAll prog) := rfl

/-- A step that takes an operation presented by its code answers as the operation on the state without the script does. -/
theorem step_withScript_issue (s : State) (i : Instr) (inp : Inputs) (q : List Stimulus) :
    step (s.withScript (issue i inp :: q)) = Outcome.withScript (exec i (s.withInputs inp)) q :=
  (step_issue rfl).trans (exec_withScript (s.withInputs inp) q i)

/-- Settles O6, by induction on the program: the stimuli still to come differ on the two sides, and the operation at the head
answers alike whatever they are. -/
theorem encodedProgramRunsAsItsOperations : Obligations.EncodedProgramRunsAsItsOperations := by
  intro prog s rest
  change runSteps prog.length (s.withScript (prog.map (fun x => issue x.1 x.2) ++ rest)) = execAll prog (s.withScript rest)
  induction prog generalizing s with
  | nil => rfl
  | cons x prog ih =>
    obtain ⟨i, inp⟩ := x
    rw [List.map_cons, List.cons_append, List.length_cons]
    generalize prog.map (fun x => issue x.1 x.2) ++ rest = codes at ih ⊢
    calc runSteps (prog.length + 1) (s.withScript (issue i inp :: codes))
      _ = Outcome.andThen (Outcome.withScript (exec i (s.withInputs inp)) codes) (runSteps prog.length) := by
        rw [runSteps_succ_eq, step_withScript_issue]
      _ = Outcome.andThen (exec i (s.withInputs inp)) fun t => runSteps prog.length (t.withScript codes) :=
        Outcome.withScript_andThen _ _ _
      _ = Outcome.andThen (exec i (s.withInputs inp)) fun t => execAll prog (t.withScript rest) :=
        congrArg (Outcome.andThen _) (funext ih)
      _ = Outcome.andThen (Outcome.withScript (exec i (s.withInputs inp)) rest) (execAll prog) :=
        (Outcome.withScript_andThen _ _ _).symm
      _ = execAll ((i, inp) :: prog) (s.withScript rest) := by
        rw [execAll_cons, ← exec_withScript]; rfl

end Sys2Proof.Machine

/-! PROOFS (40_sampler.md). SAMPLE from an idle state as one equation, the byte and the events of a sample, and from them the
three statements about SAMPLE (R100, R106, R107, R110). -/

namespace Sys2Proof.Machine

/-! ### The body of an engine operation in an idle block -/

/-- An idle block admits SAMPLE, BUILD and CYCLE whatever else its state holds (R36). -/
theorem State.admitted_admitEngine_of_idle {s : State} (h : s.seq = .idle) (body : State) :
    s.admitted s.admitEngine body = .next body := by
  rw [State.admitEngine_accept.mpr h, State.admitted_accept]

/-- SAMPLE in an idle block, with everything it writes (R100). -/
theorem exec_sample_of_idle {s : State} (h : s.seq = .idle) :
    exec .sample s = .next { s with
      raw := serByte s.inp.ser
      clk := false
      load := true
      seq := .idle
      op := none
      result := .rawOut (serByte s.inp.ser)
      trace := s.trace ++ sampleEvents s.inp.ser } := by
  have hbody : exec .sample s = .next (s.sample.complete (.rawOut s.sample.raw)) :=
    State.admitted_admitEngine_of_idle h _
  rw [hbody, State.sample_eq]
  rfl

/-! ### The byte and the events of a sample -/

/-- The byte of R74 is what the eight writes of `RAW` leave, and write `i` is the only one of them to bit `i` (R106). -/
theorem serByte_getLsbD (v : Vector Level 8) (i : Fin 8) : (serByte v).getLsbD i.val = v[i] := by
  rw [serByte, ← assemble_bits]
  simp only [setBit_getLsbD]
  fin_cases i <;> rfl

/-- The events of a sample are those of its three lines, and `SER` gives only what the environment supplies (R100). -/
theorem mem_sampleEvents {v : Vector Level 8} {e : Event} :
    e ∈ sampleEvents v ↔
      (∃ b, e = .set .clk b) ∨ (∃ b, e = .set .load b) ∨ (∃ i : Fin 8, e = .read .ser v[i]) := by
  simp only [sampleEvents, bitEvents, List.mem_append, List.mem_flatMap, List.mem_finRange, List.mem_cons,
    List.not_mem_nil, or_false, true_and, Bool.exists_bool, exists_or, exists_const]
  tauto

/-! ### The statements -/

/-- Settles O8, from the post-state of SAMPLE and the count of its events. -/
theorem sampleReadsEightBits : Obligations.SampleReadsEightBits :=
  ⟨decodeOp_encode .sample, fun s hidle => ⟨exec_sample_of_idle hidle, sampleEvents_length s.inp.ser⟩⟩

/-- Settles O9: `RAW` and the result are both the byte of R74, whose bits are the reads. -/
theorem readLandsInItsBit : Obligations.ReadLandsInItsBit :=
  fun s hidle => ⟨_, exec_sample_of_idle hidle, rfl, serByte_getLsbD s.inp.ser⟩

/-- Settles O10: the lines end at the levels R39 has them begin with, and the reports and flags are not written. -/
theorem sampleLeavesIdleStateAsItWas : Obligations.SampleLeavesIdleStateAsItWas := by
  intro s hidle ⟨hclk, hload⟩
  refine ⟨_, sampleEvents s.inp.ser, exec_sample_of_idle hidle, rfl, fun e he => ?_,
    rfl, rfl, rfl, rfl, rfl, hclk.symm, hload.symm, hidle.symm⟩
  obtain hset | hset | ⟨i, hread⟩ := mem_sampleEvents.mp he
  · exact .inl hset
  · exact .inr (.inl hset)
  · exact .inr (.inr ⟨_, hread⟩)

end Sys2Proof.Machine

/-! PROOFS (41_report_builder.md). What the composed report holds, byte by byte, and BUILD from an idle state as one
equation; from them the six statements about BUILD (R120 to R123, R126, R127, R129). -/

namespace Sys2Proof.Machine

/-! ### The new axis Z -/

/-- The sum of R120 is the addition of bytes. -/
theorem nextZ_eq (zStep prevBtn prevZ r : Byte) :
    nextZ zStep prevBtn prevZ r =
      if r ≠ prevBtn then BitVec.ofNat 8 ((prevZ.toNat + zStep.toNat) % 256) else prevZ := by
  have hsum : BitVec.ofNat 8 ((prevZ.toNat + zStep.toNat) % 256) = prevZ + zStep := by
    apply BitVec.eq_of_toNat_eq; simp
  rw [hsum]; rfl

theorem nextZ_of_equal (zStep prevZ r : Byte) : nextZ zStep r prevZ r = prevZ := if_neg (not_not_intro rfl)

/-- One BUILD takes the first change, if there is one, off the count of the changes still to come (R123). -/
theorem nextZ_add_steps (zStep prevBtn prevZ r : Byte) (k : Nat) :
    BitVec.ofNat 8 ((nextZ zStep prevBtn prevZ r).toNat + zStep.toNat * k) =
      BitVec.ofNat 8 (prevZ.toNat + zStep.toNat * ((if r ≠ prevBtn then 1 else 0) + k)) := by
  unfold nextZ
  split
  · apply BitVec.eq_of_toNat_eq
    simp [Nat.mul_add, Nat.add_assoc]
  · rw [Nat.zero_add]

/-! ### The composed report, byte by byte -/

/-- The byte BUILD writes at `BTN_OFF`: the sample, or 0x00 where it is forced (R122, R126). -/
def Params.builtButtons (p : Params) (r : Byte) : Byte := if p.buttonsSampled then r else 0x00#8

theorem Params.builtButtons_of_sampled {p : Params} (h : p.buttonsSampled = true) (r : Byte) :
    Params.builtButtons p r = r := if_pos h

theorem Params.builtButtons_of_forced {p : Params} (h : p.buttonsSampled = false) (r : Byte) :
    Params.builtButtons p r = 0x00#8 := if_neg (by simp [h])

/-- The buttons byte is forced in variant A with `A_BTN_ZERO` only (R126). -/
theorem Params.buttonsSampled_eq_false {p : Params} :
    p.buttonsSampled = false ↔ p.variant = .A ∧ p.aBtnZero = true := by
  cases hp : p.variant <;> simp [Params.buttonsSampled, hp]

theorem Params.btnOff_A {p : Params} (hp : p.variant = .A) : p.btnOff = 2 := by
  simp [Params.btnOff, Params.n, hp]

theorem Params.btnOff_B {p : Params} (hp : p.variant = .B) : p.btnOff = 3 := by
  simp [Params.btnOff, Params.n, hp]

section BuiltReport

variable {p : Params} {prev : Report}

/-- The three bytes of variant A, none of which depends on the report before (R120, R124). -/
theorem buildReport_A (hp : p.variant = .A) (hwf : prev.wf p = true) (r : Byte) :
    buildReport p prev r = [p.axisX, p.axisY, buttonsA p.aBtnZero r] := by
  obtain ⟨x, y, b, rfl⟩ := Report.eq_of_wf_A hp hwf
  simp [buildReport, hp]

/-- The four bytes of variant B (R120). -/
theorem buildReport_B (hp : p.variant = .B) (hwf : prev.wf p = true) (r : Byte) :
    buildReport p prev r = [p.axisX, p.axisY, nextZ p.zStep (byteAt prev 3) (byteAt prev 2) r, r] := by
  obtain ⟨x, y, z, b, rfl⟩ := Report.eq_of_wf_B hp hwf
  simp [buildReport, hp]

/-- The axis constants, whatever the report held before (R121). -/
theorem buildReport_axes (hwf : prev.wf p = true) (r : Byte) :
    byteAt (buildReport p prev r) 0 = p.axisX ∧ byteAt (buildReport p prev r) 1 = p.axisY := by
  cases hp : p.variant with
  | A => rw [buildReport_A hp hwf]; exact ⟨rfl, rfl⟩
  | B => rw [buildReport_B hp hwf]; exact ⟨rfl, rfl⟩

theorem byteAt_buildReport_btnOff (hwf : prev.wf p = true) (r : Byte) :
    byteAt (buildReport p prev r) p.btnOff = Params.builtButtons p r := by
  cases hp : p.variant with
  | A =>
    rw [buildReport_A hp hwf, Params.btnOff_A hp]
    cases hz : p.aBtnZero <;> simp [byteAt, buttonsA, Params.builtButtons, Params.buttonsSampled, hp, hz]
  | B =>
    rw [buildReport_B hp hwf, Params.btnOff_B hp]
    simp [byteAt, Params.builtButtons, Params.buttonsSampled, hp]

/-- A report whose axes stand and whose buttons byte BUILD would write again is composed once more as it is; in variant B an
equal buttons byte takes no step of axis Z (R129). -/
theorem buildReport_eq_self {r : Byte} (hwf : prev.wf p = true) (hx : byteAt prev 0 = p.axisX)
    (hy : byteAt prev 1 = p.axisY) (hbtn : byteAt prev p.btnOff = Params.builtButtons p r) : buildReport p prev r = prev := by
  rw [← byteAt_buildReport_btnOff hwf] at hbtn
  cases hp : p.variant with
  | A =>
    rw [buildReport_A hp hwf, Params.btnOff_A hp] at hbtn
    rw [buildReport_A hp hwf]
    obtain ⟨x, y, b, rfl⟩ := Report.eq_of_wf_A hp hwf
    obtain rfl : x = p.axisX := hx
    obtain rfl : y = p.axisY := hy
    obtain rfl : b = buttonsA p.aBtnZero r := hbtn
    rfl
  | B =>
    rw [buildReport_B hp hwf, Params.btnOff_B hp] at hbtn
    rw [buildReport_B hp hwf]
    obtain ⟨x, y, z, b, rfl⟩ := Report.eq_of_wf_B hp hwf
    obtain rfl : x = p.axisX := hx
    obtain rfl : y = p.axisY := hy
    obtain rfl : b = r := hbtn
    simp [byteAt, nextZ_of_equal]

end BuiltReport

/-! ### BUILD from an idle state -/

/-- BUILD in an idle block, with everything it writes (R120). -/
theorem exec_build_of_idle {s : State} (h : s.seq = .idle) :
    exec .build s = .next { s with
      cur := buildReport s.cfg s.cur (serByte s.inp.ser)
      raw := serByte s.inp.ser
      clk := false
      load := true
      seq := .idle
      op := none
      result := .none
      trace := s.trace ++ sampleEvents s.inp.ser } := by
  have hbody : exec .build s = .next (s.sample.writeCur.complete .none) := State.admitted_admitEngine_of_idle h _
  rw [hbody, State.sample_writeCur_eq]
  rfl

/-- Wherever BUILD answers a next state, its `CUR` is the composed report. -/
theorem exec_build_cur {s t : State} (h : exec .build s = .next t) :
    t.cur = buildReport s.cfg s.cur (serByte s.inp.ser) := by
  have hidle := State.admitEngine_accept.mp (State.admitted_next_of_ne_hold s.admitEngine_ne_hold h).1
  rw [exec_build_of_idle hidle] at h
  cases h; rfl

/-- A step that BUILD is presented to, as the BUILD after it finds the block. -/
theorem step_issue_build {s : State} {inp : Inputs} {rest : List Stimulus} (hidle : s.seq = .idle)
    (hscript : s.script = issue .build inp :: rest) :
    ∃ u, step s = .next u ∧ u.seq = .idle ∧ u.script = rest ∧ u.cfg = s.cfg ∧ u.last = s.last ∧
      u.cur = buildReport s.cfg s.cur (serByte inp.ser) :=
  ⟨_, (step_issue hscript).trans (exec_build_of_idle hidle), rfl, rfl, rfl, rfl, rfl⟩

/-! ### The axis constants over an operation -/

/-- The first two bytes of `CUR` are the axis constants (R121). -/
abbrev State.axesStand (s : State) : Prop := byteAt s.cur 0 = s.cfg.axisX ∧ byteAt s.cur 1 = s.cfg.axisY

/-- The write of `CUR` makes the axes stand, whatever they held. -/
theorem State.writeCur_axesStand {s : State} (hwf : s.reportsWf) : s.writeCur.axesStand :=
  buildReport_axes hwf.1 _

/-- Of the rows of R36 only `BLD` writes `CUR`. -/
theorem State.Row.axesStand {s t : State} (h : s.Row t) (hwf : s.reportsWf) (ha : s.axesStand) : t.axesStand := by
  cases h with
  | buildEnds | buildCompares => exact State.writeCur_axesStand hwf
  | _ => exact ha

/-- An engine operation keeps the axes through each of its micro-steps. -/
theorem exec_engine_axesStand {i : Instr} {s t : State} (hi : i.port = .engine) (hwf : s.reportsWf) (ha : s.axesStand)
    (h : exec i s = .next t) : t.axesStand := by
  refine (exec_keeps (P := fun u => u.reportsWf ∧ u.axesStand) (fun u hu => ?_) (fun u hu => ?_) h).2
  · obtain ⟨-, q, rfl, -⟩ := startOp_engine hi hu
    exact ⟨hwf, ha⟩
  · exact ⟨u.microStep_row.reportsWf hu.1, u.microStep_row.axesStand hu.1 hu.2⟩

/-- No host operation writes `CUR`. -/
theorem exec_host_axesStand {i : Instr} {s t : State} (hi : i.port = .host) (ha : s.axesStand) (h : exec i s = .next t) :
    t.axesStand :=
  exec_host_keeps hi (fun _ => ha) (fun _ _ => ha) (fun _ _ => ha) (fun _ => ha) (fun _ => ha) h

/-! ### The statements -/

/-- Settles O13, by induction on the inputs: each BUILD takes its own change off the count and leaves `prev` for the next. -/
theorem axisZCountsChanges : Obligations.AxisZCountsChanges := by
  intro s inps hidle hwf hB hscript
  induction inps generalizing s with
  | nil => exact ⟨s, rfl, rfl, by simp [changeCount]⟩
  | cons inp inps ih =>
    obtain ⟨u, hstep, huidle, huscript, hcfg, hulast, hucur⟩ := step_issue_build hidle hscript
    have huwf : u.reportsWf := by
      rw [State.reportsWf, hucur, hulast, hcfg]
      exact ⟨buildReport_wf _ hwf.1, hwf.2⟩
    obtain ⟨t, hrun, hlast, hz⟩ := ih u huidle huwf (hcfg ▸ hB) huscript
    refine ⟨t, (runSteps_succ hstep).trans hrun, hlast.trans hulast, ?_⟩
    rw [buildReport_B hB hwf.1] at hucur
    rw [hz, hucur, hcfg]
    exact nextZ_add_steps _ _ _ _ _

/-- Settles O11: the post-state of BUILD, with the report written out for each variant. -/
theorem buildComposesTheReport : Obligations.BuildComposesTheReport := by
  refine ⟨decodeOp_encode .build, fun s hidle hwf => ?_⟩
  rw [exec_build_of_idle hidle]
  cases hv : s.cfg.variant with
  | A => rw [buildReport_A hv hwf.1]; rfl
  | B => rw [buildReport_B hv hwf.1, nextZ_eq]

/-- Settles O12: the byte at `BTN_OFF` is the byte of R74, whose bits are the reads. -/
theorem buttonsByteIsTheSample : Obligations.ButtonsByteIsTheSample := by
  intro s hidle hwf hsampled
  refine ⟨_, exec_build_of_idle hidle, fun i => ?_⟩
  rw [byteAt_buildReport_btnOff hwf.1, Params.builtButtons_of_sampled hsampled, serByte_getLsbD]

/-- Settles O14: `CUR` is written with `buildReport`, whose arguments are the three things R127 names. -/
theorem buildDependsOnCurAndReadsOnly : Obligations.BuildDependsOnCurAndReadsOnly := by
  intro s u hs hu hcfg hcur hser
  refine ⟨_, _, exec_build_of_idle hs, exec_build_of_idle hu, ?_⟩
  simp only [hcfg, hcur, hser]

/-- Settles O15: in both cases the buttons byte is already the one BUILD writes. -/
theorem buildKeepsASettledReport : Obligations.BuildKeepsASettledReport := by
  intro s hidle hsettled hforced
  obtain ⟨hwf, hx, hy, -⟩ := hsettled
  refine ⟨fun hsampled hsame => ⟨_, exec_build_of_idle hidle, buildReport_eq_self hwf.1 hx hy ?_⟩,
    fun hnot => ⟨_, exec_build_of_idle hidle, buildReport_eq_self hwf.1 hx hy ?_⟩⟩
  · rw [Params.builtButtons_of_sampled hsampled, hsame]
  · obtain ⟨hA, hzero⟩ := Params.buttonsSampled_eq_false.mp hnot
    rw [Params.builtButtons_of_forced hnot, Params.btnOff_A hA, hforced hA hzero]

/-- Settles O16: BUILD composes a report with the constants, and every operation keeps them, by its port. -/
theorem axisBytesStayConstant : Obligations.AxisBytesStayConstant := by
  refine ⟨fun s t hwf h => ?_, fun i s t hwf hx hy h => ?_⟩
  · rw [exec_build_cur h]
    exact buildReport_axes hwf.1 _
  · cases hi : i.port with
    | engine => exact exec_engine_axesStand hi hwf ⟨hx, hy⟩ h
    | host => exact exec_host_axesStand hi ⟨hx, hy⟩ h

end Sys2Proof.Machine

/-! PROOFS (42_change_detector_transmitter.md). MSEND and CYCLE from an idle state as equations, by whether the reports differ
and by `READY`; from them the statements about one operation (R140 to R149), and those about runs: no change, no send (R148),
the LED (R143, R168), and the reports until the first ready CYCLE (R147). -/

namespace Sys2Proof.Machine

/-! ### The maybe-send, by whether the reports differ -/

/-- The events of a send: the `N` bytes, then the LED if it is toggled (R140). -/
def State.sendEvents (s : State) : List Event :=
  [.sendInterrupt s.cur s.cfg.n] ++ if s.fb then [.set .ledSt (!s.ledSt)] else []

section SingleOperation

variable {s : State}

/-- A send is one send, of `CUR`. -/
theorem State.sentReports_sendEvents (s : State) : sentReports s.sendEvents = [s.cur] := by
  cases h : s.fb <;> simp [State.sendEvents, h, sentReports_cons, Event.sentReport]

theorem State.sendEvents_length (s : State) : s.sendEvents.length = if s.fb = false then 1 else 2 := by
  cases h : s.fb <;> simp [State.sendEvents, h]

/-- The compare looks at every byte below `N` (R141). -/
theorem State.changed_iff_exists : s.changed = true ↔ ∃ k, k < s.cfg.n ∧ byteAt s.cur k ≠ byteAt s.last k := by
  simp [State.changed, reportsDiffer]

theorem State.maybeSend_of_eq (h : s.cur = s.last) : s.maybeSend = s.complete (.sent false) := by
  refine State.maybeSend_of_equal (Bool.eq_false_iff.mpr fun hc => ?_)
  obtain ⟨k, -, hne⟩ := State.changed_iff_exists.mp hc
  exact hne (by rw [h])

theorem State.maybeSend_of_ne (hwf : s.reportsWf) (h : s.cur ≠ s.last) :
    s.maybeSend = { s with
      last := s.cur
      ledSt := if s.fb then !s.ledSt else s.ledSt
      seq := .idle
      op := none
      result := .sent true
      trace := s.trace ++ s.sendEvents } := by
  obtain ⟨heq, -⟩ | ⟨-, hf, hs⟩ | ⟨-, hf, hs⟩ := State.maybeSend_cases hwf
  · exact absurd heq h
  · rw [hs, State.sendEvents, hf]; rfl
  · rw [hs, State.sendEvents, hf]; rfl

/-- `SENT` is the answer of the compare (R33). -/
theorem State.maybeSend_result (s : State) : s.maybeSend.result = .sent s.changed := by
  cases h : s.changed with
  | false => rw [State.maybeSend_of_equal h]; rfl
  | true => rw [State.maybeSend_of_changed h]; rfl

theorem State.maybeSend_op (s : State) : s.maybeSend.op = none := by
  unfold State.maybeSend; split <;> rfl

/-- The maybe-send does not read the result that stands on the port, and ends with its own. -/
theorem State.maybeSend_complete (s : State) (r : Result) : (s.complete r).maybeSend = s.maybeSend := by
  cases hd : s.changed with
  | false => rw [State.maybeSend_of_equal hd, State.maybeSend_of_equal (s := s.complete r) hd]; rfl
  | true =>
    rw [State.maybeSend_of_changed hd, State.maybeSend_of_changed (s := s.complete r) hd]
    cases hf : s.fb with
    | false =>
      rw [State.toggleLed_of_clear (s := s.copyToLast.transmit) hf,
        State.toggleLed_of_clear (s := (s.complete r).copyToLast.transmit) hf]; rfl
    | true =>
      rw [State.toggleLed_of_set (s := s.copyToLast.transmit) hf,
        State.toggleLed_of_set (s := (s.complete r).copyToLast.transmit) hf]; rfl

/-- On a block where no operation is in progress the end of an operation is its result. -/
theorem State.complete_of_ended (hidle : s.seq = .idle) (hop : s.op = none) (r : Result) :
    s.complete r = { s with result := r } := by
  rw [State.complete, ← hidle, ← hop]

/-! ### MSEND from an idle state -/

theorem exec_msend_of_ready (hidle : s.seq = .idle) (hready : s.inp.ready = true) :
    exec .msend s = .next s.maybeSend := by
  change s.admitted s.admitSend s.maybeSend = _
  rw [State.admitSend_accept.mpr ⟨hidle, hready⟩, State.admitted_accept]

theorem exec_msend_of_not_ready (hidle : s.seq = .idle) (hready : s.inp.ready = false) :
    exec .msend s = .refused .usbNotReady := by
  have hadmit : s.admitSend = .refuse .usbNotReady := by simp [State.admitSend, hidle, hready]
  change s.admitted s.admitSend s.maybeSend = _
  rw [hadmit, State.admitted_refuse]

/-! ### CYCLE from an idle state -/

/-- Where a CYCLE that finds `READY = 1` makes its compare: after the read of `READY` and the BUILD (R145). -/
def State.cycleBuilt (s : State) : State := s.sampleReady.sample.writeCur

/-- A ready CYCLE up to its compare writes `CUR`, `RAW` and the lines of the sampler, and gives 27 events, no send. -/
theorem State.cycleBuilt_eq (s : State) :
    s.cycleBuilt = { s with
      cur := buildReport s.cfg s.cur (serByte s.inp.ser)
      raw := serByte s.inp.ser
      clk := false
      load := true
      trace := s.trace ++ (.read .ready s.inp.ready :: sampleEvents s.inp.ser) } := by
  rw [State.cycleBuilt, State.sample_writeCur_eq, List.append_cons]; rfl

theorem State.cycleBuilt_cur (s : State) : s.cycleBuilt.cur = buildReport s.cfg s.cur (serByte s.inp.ser) := by
  rw [State.cycleBuilt_eq]

theorem State.cycleBuilt_last (s : State) : s.cycleBuilt.last = s.last := by rw [State.cycleBuilt_eq]

theorem State.cycleBuilt_fb (s : State) : s.cycleBuilt.fb = s.fb := by rw [State.cycleBuilt_eq]

theorem State.cycleBuilt_trace (s : State) :
    s.cycleBuilt.trace = s.trace ++ (.read .ready s.inp.ready :: sampleEvents s.inp.ser) := by
  rw [State.cycleBuilt_eq]

theorem State.cycleBuilt_reportsWf (hwf : s.reportsWf) : s.cycleBuilt.reportsWf :=
  State.sampleReady_sample_writeCur_reportsWf hwf

/-- The events of a ready CYCLE before its compare hold no send. -/
theorem sentReports_read_sampleEvents (p : InPort) (b : Level) (v : Vector Level 8) :
    sentReports (.read p b :: sampleEvents v) = [] := by
  rw [sentReports_cons, sentReports_sampleEvents]; rfl

theorem exec_cycle_of_ready (hidle : s.seq = .idle) (hready : s.inp.ready = true) :
    exec .cycle s = .next s.cycleBuilt.maybeSend := by
  change s.admitted s.admitEngine s.cycleBody = _
  rw [State.admitted_admitEngine_of_idle hidle, State.cycleBody_of_ready hready]; rfl

theorem exec_cycle_of_not_ready (hidle : s.seq = .idle) (hready : s.inp.ready = false) :
    exec .cycle s = .next { s with
      seq := .idle
      op := none
      result := .sent false
      trace := s.trace ++ [.read .ready false] } := by
  change s.admitted s.admitEngine s.cycleBody = _
  rw [State.admitted_admitEngine_of_idle hidle, State.cycleBody_of_not_ready hready, State.sampleReady, hready]
  rfl

/-- A ready CYCLE that builds the report last sent ends at its compare. -/
theorem exec_cycle_of_same (hidle : s.seq = .idle) (hready : s.inp.ready = true)
    (hsame : buildReport s.cfg s.cur (serByte s.inp.ser) = s.last) :
    exec .cycle s = .next (s.cycleBuilt.complete (.sent false)) := by
  have heq : s.cycleBuilt.cur = s.cycleBuilt.last := by rw [State.cycleBuilt_cur, State.cycleBuilt_last, hsame]
  rw [exec_cycle_of_ready hidle hready, State.maybeSend_of_eq heq]

/-- A ready CYCLE that builds another report than was last sent sends it, and nothing else. -/
theorem exec_cycle_of_change (hidle : s.seq = .idle) (hready : s.inp.ready = true) (hwf : s.reportsWf)
    (hchange : buildReport s.cfg s.cur (serByte s.inp.ser) ≠ s.last) :
    ∃ t es, exec .cycle s = .next t ∧ t.trace = s.trace ++ es ∧ t.result = .sent true ∧ sentReports es = [t.cur] ∧
      t.last = t.cur ∧ t.cur = buildReport s.cfg s.cur (serByte s.inp.ser) ∧
      es.length = if s.fb = false then 28 else 29 := by
  have hne : s.cycleBuilt.cur ≠ s.cycleBuilt.last := by rwa [State.cycleBuilt_cur, State.cycleBuilt_last]
  have hexec := exec_cycle_of_ready hidle hready
  rw [State.maybeSend_of_ne (State.cycleBuilt_reportsWf hwf) hne] at hexec
  refine ⟨_, (.read .ready s.inp.ready :: sampleEvents s.inp.ser) ++ s.cycleBuilt.sendEvents, hexec, ?_, rfl, ?_, rfl,
    s.cycleBuilt_cur, ?_⟩
  · rw [← List.append_assoc, ← State.cycleBuilt_trace]
  · rw [sentReports_append, sentReports_read_sampleEvents, State.sentReports_sendEvents]; rfl
  · rw [List.length_append, List.length_cons, sampleEvents_length, State.sendEvents_length, State.cycleBuilt_fb]
    split <;> rfl

end SingleOperation

/-! ### The statements about one operation -/

/-- Settles O19, from the entry condition of MSEND. -/
theorem msendNeedsReady : Obligations.MsendNeedsReady :=
  fun _ => exec_msend_of_not_ready

/-- Settles O17: the maybe-send with equal and with different reports. -/
theorem msendSendsADifference : Obligations.MsendSendsADifference := by
  refine ⟨decodeOp_encode .msend, fun s hidle hready hwf => ?_⟩
  rw [exec_msend_of_ready hidle hready]
  split
  next heq => rw [State.maybeSend_of_eq heq]; rfl
  next hne => rw [State.maybeSend_of_ne hwf hne, State.sendEvents, List.append_assoc]

/-- Settles O18: `SENT` is the answer of the compare, which looks at every byte. -/
theorem compareIsByteForByte : Obligations.CompareIsByteForByte :=
  fun s hidle hready _ =>
    ⟨s.maybeSend, s.changed, exec_msend_of_ready hidle hready, s.maybeSend_result, State.changed_iff_exists⟩

/-- Settles O20: the first MSEND leaves `CUR = LAST` and `READY` where it was, so the second finds no difference. -/
theorem msendIsIdempotent : Obligations.MsendIsIdempotent := by
  intro s hidle hready hwf
  have hfirst := exec_msend_of_ready hidle hready
  have hinp : s.maybeSend.inp = s.inp := (exec_engine_sameHandler rfl hfirst).inp
  refine ⟨s.maybeSend, hfirst, ?_⟩
  rw [exec_msend_of_ready s.maybeSend_seq (hinp ▸ hready), State.maybeSend_of_eq (State.maybeSend_cur_eq_last hwf),
    State.complete_of_ended s.maybeSend_seq s.maybeSend_op]

/-- Settles O21: BUILD after the read of `READY` ends where CYCLE makes its compare, but for its result. -/
theorem cycleIsReadyThenBuildThenSend : Obligations.CycleIsReadyThenBuildThenSend := by
  refine ⟨decodeOp_encode .cycle, fun s hidle => ⟨exec_cycle_of_not_ready hidle, fun hready => ?_⟩⟩
  have hread : { s with trace := s.trace ++ [.read .ready true] } = s.sampleReady := by rw [← hready]; rfl
  rw [hread]
  refine ⟨s.cycleBuilt.complete .none, s.cycleBuilt.maybeSend, ?_, ?_, exec_cycle_of_ready hidle hready⟩
  · exact State.admitted_admitEngine_of_idle (s := s.sampleReady) hidle _
  · have hbuilt : (s.cycleBuilt.complete .none).inp.ready = true := by rw [State.cycleBuilt_eq]; exact hready
    rw [exec_msend_of_ready rfl hbuilt, State.maybeSend_complete]

/-- Settles O24: not ready, ready with nothing to send, and ready with a send. -/
theorem cycleSendsAtMostOnce : Obligations.CycleSendsAtMostOnce := by
  intro s hidle hwf
  cases hready : s.inp.ready with
  | false => exact ⟨_, [.read .ready false], false, exec_cycle_of_not_ready hidle hready, rfl, rfl, nofun, rfl, rfl⟩
  | true =>
    by_cases hsame : buildReport s.cfg s.cur (serByte s.inp.ser) = s.last
    · refine ⟨_, .read .ready s.inp.ready :: sampleEvents s.inp.ser, false, exec_cycle_of_same hidle hready hsame,
        s.cycleBuilt_trace, rfl, nofun, sentReports_read_sampleEvents _ _ _, ?_⟩
      rw [List.length_cons, sampleEvents_length]; rfl
    · obtain ⟨t, es, hexec, htrace, hresult, hsent, -, -, hlen⟩ := exec_cycle_of_change hidle hready hwf hsame
      exact ⟨t, es, true, hexec, htrace, hresult, fun _ => rfl, hsent, hlen⟩

/-! ### Which changes a CYCLE sees -/

theorem byteAt_replicate_zero (n k : Nat) : byteAt (List.replicate n 0x00#8) k = 0x00#8 := by
  rw [byteAt, List.getD_eq_getElem?_getD, List.getElem?_replicate]
  split <;> rfl

/-- Axis Z of the composed report (R123). -/
theorem byteAt_buildReport_axisZ {p : Params} {prev : Report} (hB : p.variant = .B) (hwf : prev.wf p = true) (r : Byte) :
    byteAt (buildReport p prev r) 2 = nextZ p.zStep (byteAt prev 3) (byteAt prev 2) r := by
  rw [buildReport_B hB hwf]; rfl

theorem nextZ_of_ne {zStep prevBtn prevZ r : Byte} (h : r ≠ prevBtn) : nextZ zStep prevBtn prevZ r = prevZ + zStep :=
  if_pos h

/-- Settles O25: the axis bytes of the built report are the constants, of which one is not the 0x00 of `LAST`. -/
theorem firstReadyCycleSends : Obligations.FirstReadyCycleSends := by
  intro s hidle ⟨hcur, hlast⟩ hready haxes
  have hwf : s.reportsWf := State.reportsAtReset_reportsWf ⟨hcur, hlast⟩
  obtain ⟨hx, hy⟩ := buildReport_axes hwf.1 (serByte s.inp.ser)
  have hchange : buildReport s.cfg s.cur (serByte s.inp.ser) ≠ s.last := by
    intro hsame
    rw [hsame, hlast, byteAt_replicate_zero] at hx hy
    exact haxes.elim (· hx.symm) (· hy.symm)
  obtain ⟨t, es, hexec, htrace, hresult, hsent, htlast, htcur, -⟩ := exec_cycle_of_change hidle hready hwf hchange
  refine ⟨t, es, hexec, htrace, hresult, hsent, htlast, htcur ▸ hx, htcur ▸ hy, fun hB => ?_⟩
  rw [htcur, byteAt_buildReport_axisZ hB hwf.1, hcur, byteAt_replicate_zero, byteAt_replicate_zero]
  split
  next hzero => rw [hzero, nextZ_of_equal]
  next hne => rw [nextZ_of_ne hne, BitVec.zero_add]

/-- Settles O27: the buttons byte of the built report is the sample, which is not that of `CUR`, and so not that of `LAST`. -/
theorem changeIsSentInItsCycle : Obligations.ChangeIsSentInItsCycle := by
  intro s hidle hready hwf heq hsampled hdiff
  have hbtn : byteAt (buildReport s.cfg s.cur (serByte s.inp.ser)) s.cfg.btnOff = serByte s.inp.ser := by
    rw [byteAt_buildReport_btnOff hwf.1, Params.builtButtons_of_sampled hsampled]
  have hchange : buildReport s.cfg s.cur (serByte s.inp.ser) ≠ s.last := by
    intro hsame
    rw [hsame, ← heq] at hbtn
    exact hdiff hbtn.symm
  obtain ⟨t, es, hexec, htrace, hresult, hsent, -, htcur, -⟩ := exec_cycle_of_change hidle hready hwf hchange
  refine ⟨t, es, hexec, htrace, hresult, hsent, htcur ▸ hbtn, fun hB => ?_⟩
  rw [Params.btnOff_B hB] at hdiff
  rw [htcur, byteAt_buildReport_axisZ hB hwf.1, nextZ_of_ne hdiff]

/-! ### No change, no send -/

/-- `t` comes after `s` with no send, and with the parameters and every register of `s` that stands between two operations but
`RAW` (R148). -/
structure State.StaysAs (s t : State) : Prop where
  cfg : t.cfg = s.cfg
  cur : t.cur = s.cur
  last : t.last = s.last
  fb : t.fb = s.fb
  ledSt : t.ledSt = s.ledSt
  wrp : t.wrp = s.wrp
  clk : t.clk = s.clk
  load : t.load = s.load
  seq : t.seq = s.seq
  quiet : ∃ es, t.trace = s.trace ++ es ∧ sentReports es = []

theorem State.StaysAs.refl (s : State) : s.StaysAs s :=
  ⟨rfl, rfl, rfl, rfl, rfl, rfl, rfl, rfl, rfl, [], (List.append_nil _).symm, rfl⟩

theorem State.StaysAs.trans {s t u : State} (h₁ : s.StaysAs t) (h₂ : t.StaysAs u) : s.StaysAs u := by
  obtain ⟨es₁, htrace₁, hquiet₁⟩ := h₁.quiet
  obtain ⟨es₂, htrace₂, hquiet₂⟩ := h₂.quiet
  refine ⟨h₂.cfg.trans h₁.cfg, h₂.cur.trans h₁.cur, h₂.last.trans h₁.last, h₂.fb.trans h₁.fb, h₂.ledSt.trans h₁.ledSt,
    h₂.wrp.trans h₁.wrp, h₂.clk.trans h₁.clk, h₂.load.trans h₁.load, h₂.seq.trans h₁.seq, es₁ ++ es₂, ?_, ?_⟩
  · rw [htrace₂, htrace₁, List.append_assoc]
  · rw [sentReports_append, hquiet₁, hquiet₂]; rfl

/-- The premises of R148 on a state between two operations: idle, settled, with forced buttons at 0x00 and idle lines. -/
structure State.AtRest (s : State) : Prop where
  idle : s.seq = .idle
  settled : s.settled
  forced : s.buttonsForced
  lines : s.linesIdle

theorem State.AtRest.of_staysAs {s t : State} (h : s.AtRest) (hst : s.StaysAs t) : t.AtRest := by
  obtain ⟨hidle, hsettled, hforced, hlines⟩ := h
  refine ⟨hst.seq.trans hidle, ?_, ?_, ?_⟩
  · simpa only [State.settled, State.reportsWf, hst.cfg, hst.cur, hst.last] using hsettled
  · simpa only [State.buttonsForced, hst.cfg, hst.cur] using hforced
  · simpa only [State.linesIdle, hst.clk, hst.load] using hlines

/-- The report that an unchanged sample composes in a settled state is `CUR`: BUILD keeps it (R129), sampled or forced. -/
theorem State.AtRest.buildReport_eq {s : State} (h : s.AtRest) (hsame : serByte s.inp.ser = byteAt s.cur s.cfg.btnOff) :
    buildReport s.cfg s.cur (serByte s.inp.ser) = s.cur := by
  obtain ⟨hsampled, hnot⟩ := buildKeepsASettledReport s h.idle h.settled h.forced
  obtain ⟨t, hbuild, hcur⟩ : ∃ t, exec .build s = .next t ∧ t.cur = s.cur := by
    cases hb : s.cfg.buttonsSampled with
    | true => exact hsampled hb hsame
    | false => exact hnot hb
  rw [← exec_build_cur hbuild, hcur]

/-- One CYCLE with an unchanged sample, ready or not. -/
theorem State.AtRest.exec_cycle {s : State} (h : s.AtRest) (hsame : serByte s.inp.ser = byteAt s.cur s.cfg.btnOff) :
    ∃ t, exec .cycle s = .next t ∧ s.StaysAs t ∧ t.script = s.script ∧ t.result = .sent false := by
  cases hready : s.inp.ready with
  | false =>
    exact ⟨_, exec_cycle_of_not_ready h.idle hready,
      ⟨rfl, rfl, rfl, rfl, rfl, rfl, rfl, rfl, h.idle.symm, _, rfl, rfl⟩, rfl, rfl⟩
  | true =>
    have hcur := h.buildReport_eq hsame
    obtain ⟨hclk, hload⟩ := h.lines
    obtain ⟨-, -, -, hlast⟩ := h.settled
    refine ⟨_, exec_cycle_of_same h.idle hready (hcur.trans hlast.symm), ?_, ?_, rfl⟩
    · rw [State.cycleBuilt_eq]
      exact ⟨rfl, hcur, rfl, rfl, rfl, rfl, hclk.symm, hload.symm, h.idle.symm, _, rfl, sentReports_read_sampleEvents _ _ _⟩
    · rw [State.cycleBuilt_eq]; rfl

/-- One step that presents a CYCLE with an unchanged sample. -/
theorem State.AtRest.step_issue_cycle {s : State} {inp : Inputs} {rest : List Stimulus} (h : s.AtRest)
    (hsame : serByte inp.ser = byteAt s.cur s.cfg.btnOff) (hscript : s.script = issue .cycle inp :: rest) :
    ∃ u, step s = .next u ∧ s.StaysAs u ∧ u.script = rest ∧ u.result = .sent false := by
  have hpresented : State.AtRest { s with script := rest, inp := inp } := ⟨h.idle, h.settled, h.forced, h.lines⟩
  obtain ⟨u, hexec, hstays, huscript, huresult⟩ := hpresented.exec_cycle hsame
  exact ⟨u, (step_issue hscript).trans hexec, ⟨hstays.cfg, hstays.cur, hstays.last, hstays.fb, hstays.ledSt, hstays.wrp,
    hstays.clk, hstays.load, hstays.seq, hstays.quiet⟩, huscript, huresult⟩

/-- Any number of CYCLEs with an unchanged sample, by induction on their inputs. -/
theorem State.AtRest.runSteps_cycles {s : State} {inps : List Inputs} (h : s.AtRest)
    (hsame : ∀ inp ∈ inps, serByte inp.ser = byteAt s.cur s.cfg.btnOff) (hscript : s.script = inps.map (issue .cycle)) :
    ∃ t, runSteps inps.length s = .next t ∧ s.StaysAs t ∧
      (inps ≠ [] ∨ s.result = .sent false → t.result = .sent false) := by
  induction inps generalizing s with
  | nil => exact ⟨s, rfl, .refl s, fun hr => hr.resolve_left (not_not_intro rfl)⟩
  | cons inp inps ih =>
    obtain ⟨hhead, htail⟩ := List.forall_mem_cons.mp hsame
    obtain ⟨u, hstep, hsu, huscript, huresult⟩ := h.step_issue_cycle hhead hscript
    obtain ⟨t, hrun, hut, hresult⟩ := ih (h.of_staysAs hsu) (by rwa [hsu.cur, hsu.cfg]) huscript
    exact ⟨t, (runSteps_succ hstep).trans hrun, hsu.trans hut, fun _ => hresult (.inr huresult)⟩

/-- Settles O26, from the run of CYCLEs at rest. -/
theorem noChangeNoSend : Obligations.NoChangeNoSend := by
  intro s inps hidle hsettled hforced hlines hsame hscript
  have hrest : s.AtRest := ⟨hidle, hsettled, hforced, hlines⟩
  obtain ⟨t, hrun, hstays, hresult⟩ := hrest.runSteps_cycles hsame hscript
  obtain ⟨es, htrace, hquiet⟩ := hstays.quiet
  exact ⟨t, es, hrun, htrace, hquiet, hstays.cur, hstays.last, hstays.fb, hstays.ledSt, hstays.wrp, hstays.clk, hstays.load,
    hstays.seq, fun hne => hresult (.inl hne)⟩

/-! ### The LED over runs of engine operations -/

/-- From `s` to `t` the flag stays, and the LED is inverted if it is set and the number of sends on the way is odd. -/
def State.LedFollowsSends (s t : State) : Prop :=
  ∃ es, t.trace = s.trace ++ es ∧ t.fb = s.fb ∧
    t.ledSt = (s.ledSt ^^ (s.fb && decide ((sentReports es).length % 2 = 1)))

theorem State.LedFollowsSends.of_quiet {s t : State} {es : List Event} (htrace : t.trace = s.trace ++ es)
    (hes : sentReports es = []) (hfb : t.fb = s.fb) (hled : t.ledSt = s.ledSt) : s.LedFollowsSends t :=
  ⟨es, htrace, hfb, by rw [hled, hes]; simp⟩

/-- The parity of a sum is the exclusive or of the parities. -/
theorem decide_odd_add (a b : Nat) :
    decide ((a + b) % 2 = 1) = (decide (a % 2 = 1) ^^ decide (b % 2 = 1)) := by
  obtain ha | ha := Nat.mod_two_eq_zero_or_one a <;> obtain hb | hb := Nat.mod_two_eq_zero_or_one b <;>
    simp [Nat.add_mod, ha, hb]

theorem State.LedFollowsSends.trans {s t u : State} (h₁ : s.LedFollowsSends t) (h₂ : t.LedFollowsSends u) :
    s.LedFollowsSends u := by
  obtain ⟨es₁, htrace₁, hfb₁, hled₁⟩ := h₁
  obtain ⟨es₂, htrace₂, hfb₂, hled₂⟩ := h₂
  refine ⟨es₁ ++ es₂, by rw [htrace₂, htrace₁, List.append_assoc], hfb₂.trans hfb₁, ?_⟩
  rw [hled₂, hled₁, hfb₁, sentReports_append, List.length_append, decide_odd_add, Bool.and_xor_distrib_left,
    Bool.xor_assoc]

/-- The maybe-send toggles the LED exactly when it sends and the flag is set (R143). -/
theorem State.maybeSend_ledFollowsSends {s : State} (hwf : s.reportsWf) : s.LedFollowsSends s.maybeSend := by
  by_cases heq : s.cur = s.last
  · rw [State.maybeSend_of_eq heq]; exact .of_quiet (List.append_nil _).symm rfl rfl rfl
  · rw [State.maybeSend_of_ne hwf heq]
    refine ⟨s.sendEvents, rfl, rfl, ?_⟩
    rw [State.sentReports_sendEvents]
    cases s.fb <;> simp

/-- A ready CYCLE moves the LED in its maybe-send only. -/
theorem State.cycleBody_ledFollowsSends {s : State} (hwf : s.reportsWf) : s.LedFollowsSends s.cycleBody := by
  cases hready : s.inp.ready with
  | false => rw [State.cycleBody_of_not_ready hready]; exact .of_quiet rfl rfl rfl rfl
  | true =>
    have hbuilt : s.LedFollowsSends s.cycleBuilt := by
      rw [State.cycleBuilt_eq]; exact .of_quiet rfl (sentReports_read_sampleEvents _ _ _) rfl rfl
    rw [State.cycleBody_of_ready hready]
    exact hbuilt.trans (State.maybeSend_ledFollowsSends (State.cycleBuilt_reportsWf hwf))

theorem exec_engine_ledFollowsSends {i : Instr} {s t : State} (hi : i.port = .engine) (hwf : s.reportsWf)
    (h : exec i s = .next t) : s.LedFollowsSends t := by
  cases i with
  | sample =>
    obtain ⟨-, rfl⟩ := State.admitted_next_of_ne_hold s.admitEngine_ne_hold h
    rw [State.sample_eq]; exact .of_quiet rfl (sentReports_sampleEvents _) rfl rfl
  | build =>
    obtain ⟨-, rfl⟩ := State.admitted_next_of_ne_hold s.admitEngine_ne_hold h
    rw [State.sample_writeCur_eq]; exact .of_quiet rfl (sentReports_sampleEvents _) rfl rfl
  | msend =>
    obtain ⟨-, rfl⟩ := State.admitted_next_of_ne_hold s.admitSend_ne_hold h
    exact State.maybeSend_ledFollowsSends hwf
  | cycle =>
    obtain ⟨-, rfl⟩ := State.admitted_next_of_ne_hold s.admitEngine_ne_hold h
    exact State.cycleBody_ledFollowsSends hwf
  | getrep | setrep | wrchunk | unhreq => cases hi

/-- An engine operation keeps both reports in form, through each of its micro-steps. -/
theorem exec_engine_reportsWf {i : Instr} {s t : State} (hi : i.port = .engine) (hwf : s.reportsWf)
    (h : exec i s = .next t) : t.reportsWf := by
  refine exec_keeps (P := State.reportsWf) (fun u hu => ?_) (fun u => u.microStep_row.reportsWf) h
  obtain ⟨-, q, rfl, -⟩ := startOp_engine hi hu
  exact hwf

/-- A run of a program that answers is its first operation and a run of the others. -/
theorem execAll_cons_next {i : Instr} {inp : Inputs} {prog : List (Instr × Inputs)} {s t : State}
    (h : execAll ((i, inp) :: prog) s = .next t) :
    ∃ u, exec i (s.withInputs inp) = .next u ∧ execAll prog u = .next t := by
  rw [execAll_cons] at h
  cases hexec : exec i (s.withInputs inp) with
  | next u => rw [hexec] at h; exact ⟨u, rfl, h⟩
  | fault r => cases r
  | refused r => rw [hexec] at h; cases h

/-- Settles O28, by induction on the program. -/
theorem ledTogglesOncePerSend : Obligations.LedTogglesOncePerSend := by
  intro prog s t hport hwf h
  change s.LedFollowsSends t
  induction prog generalizing s with
  | nil => cases h; exact .of_quiet (List.append_nil _).symm rfl rfl rfl
  | cons x prog ih =>
    obtain ⟨i, inp⟩ := x
    obtain ⟨hi, hrest⟩ := List.forall_mem_cons.mp hport
    obtain ⟨u, hexec, hrun⟩ := execAll_cons_next h
    have hled : s.LedFollowsSends u := exec_engine_ledFollowsSends (s := s.withInputs inp) hi hwf hexec
    exact hled.trans (ih u hrest (exec_engine_reportsWf (s := s.withInputs inp) hi hwf hexec) hrun)

/-! ### Until the first ready CYCLE or BUILD -/

/-- What holds of `s` on the way from `s₀` as long as no report has been built: an idle block with both reports at their reset
value, only such stimuli to come as leave them there, and no send if there was none before (R147, R203). -/
structure State.Unbuilt (s₀ s : State) : Prop where
  idle : s.seq = .idle
  reports : s.reportsAtReset
  script : s.script.all leavesReports = true
  unsent : sentReports s₀.trace = [] → sentReports s.trace = []

section Unbuilt

variable {s₀ s t : State}

/-- An idle state with the same reports, sends and stimuli to come. -/
theorem State.Unbuilt.of_same (h : s₀.Unbuilt s) (hidle : t.seq = .idle) (hcur : t.cur = s.cur) (hsame : s.SameSent t)
    (hscript : t.script = s.script) : s₀.Unbuilt t := by
  obtain ⟨-, hreports, hall, hunsent⟩ := h
  refine ⟨hidle, ?_, hscript ▸ hall, fun h₀ => hsame.sent.trans (hunsent h₀)⟩
  rw [State.reportsAtReset, hcur, hsame.last, hsame.cfg]; exact hreports

/-- A host operation writes no report and sends none. -/
theorem exec_host_unbuilt {i : Instr} (hi : i.port = .host) (hs : s₀.Unbuilt s) (h : exec i s = .next t) :
    s₀.Unbuilt t :=
  exec_host_keeps hi (fun _ => hs.of_same rfl rfl ⟨rfl, rfl, sentReports_snoc_snoc _ rfl rfl⟩ rfl)
    (fun _ _ => hs.of_same rfl rfl ⟨rfl, rfl, sentReports_snoc_snoc _ rfl rfl⟩ rfl)
    (fun _ _ => hs.of_same rfl rfl ⟨rfl, rfl, sentReports_snoc _ rfl⟩ rfl)
    (fun _ => hs.of_same rfl rfl ⟨rfl, rfl, sentReports_snoc _ rfl⟩ rfl)
    (fun hidle => hs.of_same hidle rfl ⟨rfl, rfl, rfl⟩ rfl) h

/-- The operations taken at once that leave the reports: MSEND finds them equal, and a CYCLE with `READY = 0` builds none. -/
theorem exec_unbuilt {code : OpCode} (hx : leavesReports (.op code s.inp) = true) (hs : s₀.Unbuilt s)
    (h : exec (decodeOp code) s = .next t) : s₀.Unbuilt t := by
  simp only [leavesReports] at hx
  generalize decodeOp code = i at hx h
  cases i with
  | sample =>
    rw [exec_sample_of_idle hs.idle] at h
    cases h
    exact hs.of_same rfl rfl ⟨rfl, rfl, by rw [sentReports_append, sentReports_sampleEvents, List.append_nil]⟩ rfl
  | build => cases hx
  | msend =>
    obtain ⟨-, rfl⟩ := State.admitted_next_of_ne_hold s.admitSend_ne_hold h
    obtain ⟨hcur, hlast⟩ := hs.reports
    rw [State.maybeSend_of_eq (hcur.trans hlast.symm)]
    exact hs.of_same rfl rfl ⟨rfl, rfl, rfl⟩ rfl
  | cycle =>
    have hready : s.inp.ready = false := by simpa using hx
    rw [exec_cycle_of_not_ready hs.idle hready] at h
    cases h
    exact hs.of_same rfl rfl ⟨rfl, rfl, sentReports_snoc _ rfl⟩ rfl
  | getrep | setrep | wrchunk | unhreq => exact exec_host_unbuilt rfl hs h

theorem stimulate_unbuilt {x : Stimulus} (hx : leavesReports x = true) (hs : s₀.Unbuilt s) (h : stimulate x s = .next t) :
    s₀.Unbuilt t := by
  have hinputs : ∀ inp, s₀.Unbuilt (s.withInputs inp) := fun _ => hs.of_same hs.idle rfl ⟨rfl, rfl, rfl⟩ rfl
  cases x with
  | op code inp => exact exec_unbuilt (s := s.withInputs inp) hx (hinputs inp) h
  | start => cases hx
  | hostreq req inp => exact exec_host_unbuilt (classify_port s.cfg req) (hinputs inp) h
  | tick => cases h; rw [State.microStep_idle hs.idle]; exact hs
  | clearWrp =>
    simp only [stimulate, State.clearWrpEvent, if_pos hs.idle] at h
    cases h
    exact hs.of_same hs.idle rfl ⟨rfl, rfl, rfl⟩ rfl
  | reset => cases h; exact ⟨rfl, State.resetOf_reportsAtReset s.cfg, hs.script, fun _ => rfl⟩

theorem step_unbuilt (hs : s₀.Unbuilt s) (h : step s = .next t) : s₀.Unbuilt t := by
  unfold step at h
  split at h
  · cases h; rw [State.microStep_idle hs.idle]; exact hs
  next x rest hscript =>
    have hall := hs.script
    rw [hscript, List.all_cons, Bool.and_eq_true] at hall
    obtain ⟨hx, hrest⟩ := hall
    exact stimulate_unbuilt (s := { s with script := rest }) hx ⟨hs.idle, hs.reports, hrest, hs.unsent⟩ h

end Unbuilt

/-- Settles O53: no step of such a run builds a report. -/
theorem untilTheFirstReadyCycleReportsAreAtReset : Obligations.UntilTheFirstReadyCycleReportsAreAtReset := by
  intro s t k hidle hreports hscript h
  have ht := runSteps_keeps (fun _ _ => step_unbuilt) (State.Unbuilt.mk (s₀ := s) hidle hreports hscript id) h
  exact ⟨ht.idle, ht.reports, ht.unsent⟩

end Sys2Proof.Machine

/-! PROOFS (43_host_port.md). The four request bodies as equations, and what a host operation can answer as one relation; from
them the statements about each operation (R160 to R163) and about the port as a whole (R164, R165, R167), and, with the rows of
the sequencer, the parity of `FB` over runs (R161, R168). -/

namespace Sys2Proof.Machine

/-! ### The bodies of the host operations -/

/-- GETREP's body, with everything it writes (R160). -/
theorem State.exposeLast_eq (s : State) :
    s.exposeLast = { s with
      seq := .idle
      op := none
      result := .handled (memRead s.last 0 s.cfg.n)
      trace := s.trace ++ [.setResponsePointer (memRead s.last 0 s.cfg.n) s.cfg.n, .response .handled (some s.cfg.n)] } := by
  simp [State.exposeLast, State.respond, State.emit, State.complete]

/-- SETREP's body, with everything it writes (R161). -/
theorem State.deferWrite_eq (s : State) :
    s.deferWrite = { s with
      fb := !s.fb
      wrp := true
      seq := .idle
      op := none
      result := .deferredWrite
      trace := s.trace ++ [.setDeferredWrite, .response .deferredWrite none] } := by
  simp [State.deferWrite, State.invertFb, State.respond, State.emit, State.complete]

/-- WRCHUNK's body, with everything it writes (R162). -/
theorem State.finishWrite_eq (s : State) :
    s.finishWrite = { s with
      wrp := false
      seq := .idle
      op := none
      result := .writeComplete
      trace := s.trace ++ [.response .writeComplete none] } := rfl

/-- UNHREQ's body, with everything it writes (R163). -/
theorem State.answerNotHandled_eq (s : State) :
    s.answerNotHandled = { s with
      seq := .idle
      op := none
      result := .notHandled
      trace := s.trace ++ [.response .notHandled (some 0)] } := rfl

/-! ### What a host operation answers -/

/-- `s.HostAnswer i t`: the host operation `i` answers `t` from `s`, either with its body, under its entry condition, or, being
a request, with nothing done while a deferred write is outstanding (R164, R165). -/
inductive State.HostAnswer (s : State) : Instr → State → Prop
  | getrep (hidle : s.seq = .idle) (hwrp : s.wrp = false) : s.HostAnswer .getrep s.exposeLast
  | setrep (hB : s.cfg.hasSetrep = true) (hidle : s.seq = .idle) (hwrp : s.wrp = false) : s.HostAnswer .setrep s.deferWrite
  | wrchunk (hB : s.cfg.hasSetrep = true) (hidle : s.seq = .idle) (hwrp : s.wrp = true) : s.HostAnswer .wrchunk s.finishWrite
  | unhreq (hidle : s.seq = .idle) (hwrp : s.wrp = false) : s.HostAnswer .unhreq s.answerNotHandled
  | held {i : Instr} (hi : i.port = .host) (hne : i ≠ .wrchunk) (hwf : i.wf s.cfg = true) (hidle : s.seq = .idle)
      (hwrp : s.wrp = true) : s.HostAnswer i s.notAccept

section HostAnswer

variable {s t u : State} {i : Instr}

theorem State.admitted_of_accept {a : Admission} (h : a = .accept) : s.admitted a t = .next t := by
  rw [h, State.admitted_accept]

theorem State.admitted_of_hold {a : Admission} (h : a = .hold) : s.admitted a t = .next s.notAccept := by
  rw [h, State.admitted_hold]

theorem State.admitted_of_refuse {a : Admission} {r : Refusal} (h : a = .refuse r) : s.admitted a t = .refused r := by
  rw [h, State.admitted_refuse]

/-- The operations of the host port answer as the relation says. -/
theorem State.HostAnswer.exec_eq (h : s.HostAnswer i t) : exec i s = .next t := by
  cases h with
  | getrep hidle hwrp => exact State.admitted_of_accept (State.admitRequest_accept.mpr ⟨hidle, hwrp⟩)
  | setrep hB hidle hwrp => exact State.admitted_of_accept (State.admitSetReport_accept.mpr ⟨hB, hidle, hwrp⟩)
  | wrchunk hB hidle hwrp => exact State.admitted_of_accept (State.admitChunk_accept.mpr ⟨hB, hidle, hwrp⟩)
  | unhreq hidle hwrp => exact State.admitted_of_accept (State.admitRequest_accept.mpr ⟨hidle, hwrp⟩)
  | held hi hne hwf hidle hwrp =>
    cases i with
    | getrep | unhreq => exact State.admitted_of_hold (State.admitRequest_hold.mpr ⟨hidle, hwrp⟩)
    | setrep => exact State.admitted_of_hold (State.admitSetReport_hold.mpr ⟨hwf, hidle, hwrp⟩)
    | wrchunk => exact absurd rfl hne
    | sample | build | msend | cycle => cases hi

/-- GETREP's and UNHREQ's common admission, by the value of `WRP`. -/
theorem State.admitRequest_next {body : State} (h : s.admitted s.admitRequest body = .next t) :
    s.seq = .idle ∧ ((s.wrp = false ∧ t = body) ∨ (s.wrp = true ∧ t = s.notAccept)) := by
  obtain ⟨ha, ht⟩ | ⟨ha, ht⟩ := State.admitted_next h
  · obtain ⟨hidle, hwrp⟩ := State.admitRequest_accept.mp ha
    exact ⟨hidle, .inl ⟨hwrp, ht⟩⟩
  · obtain ⟨hidle, hwrp⟩ := State.admitRequest_hold.mp ha
    exact ⟨hidle, .inr ⟨hwrp, ht⟩⟩

/-- A host operation answers a next state in these ways only. -/
theorem State.HostAnswer.of_exec (hi : i.port = .host) (h : exec i s = .next t) : s.HostAnswer i t := by
  cases i with
  | getrep =>
    obtain ⟨hidle, ⟨hwrp, rfl⟩ | ⟨hwrp, rfl⟩⟩ := State.admitRequest_next h
    · exact .getrep hidle hwrp
    · exact .held rfl nofun rfl hidle hwrp
  | setrep =>
    obtain ⟨ha, rfl⟩ | ⟨ha, rfl⟩ := State.admitted_next h
    · obtain ⟨hB, hidle, hwrp⟩ := State.admitSetReport_accept.mp ha
      exact .setrep hB hidle hwrp
    · obtain ⟨hB, hidle, hwrp⟩ := State.admitSetReport_hold.mp ha
      exact .held rfl nofun hB hidle hwrp
  | wrchunk =>
    obtain ⟨ha, rfl⟩ := State.admitted_next_of_ne_hold s.admitChunk_ne_hold h
    obtain ⟨hB, hidle, hwrp⟩ := State.admitChunk_accept.mp ha
    exact .wrchunk hB hidle hwrp
  | unhreq =>
    obtain ⟨hidle, ⟨hwrp, rfl⟩ | ⟨hwrp, rfl⟩⟩ := State.admitRequest_next h
    · exact .unhreq hidle hwrp
    · exact .held rfl nofun rfl hidle hwrp
  | sample | build | msend | cycle => cases hi

/-- The result `notAccepted` is the held request's alone, and `WRP` then was 1; every other answer comes with the value of `WRP`
that its operation asks for, and leaves the one that R164 names. -/
theorem State.HostAnswer.accepted_or_held (h : s.HostAnswer i t) :
    i.wf s.cfg = true ∧
      ((t.result ≠ .notAccepted ∧ (s.wrp = true ↔ i = .wrchunk) ∧ t.wrp = decide (i = .setrep)) ∨
        (t.result = .notAccepted ∧ s.wrp = true ∧ i ≠ .wrchunk ∧ t.wrp = s.wrp)) := by
  cases h with
  | getrep _ hwrp => exact ⟨rfl, .inl ⟨nofun, by simp [hwrp], hwrp⟩⟩
  | setrep hB _ hwrp => exact ⟨hB, .inl ⟨nofun, by simp [hwrp], rfl⟩⟩
  | wrchunk hB _ hwrp => exact ⟨hB, .inl ⟨nofun, by simp [hwrp], rfl⟩⟩
  | unhreq _ hwrp => exact ⟨rfl, .inl ⟨nofun, by simp [hwrp], hwrp⟩⟩
  | held _ hne hwf _ hwrp => exact ⟨hwf, .inr ⟨rfl, hwrp, hne, rfl⟩⟩

/-- At the value of `WRP` that it asks for, an operation of the variant is answered. -/
theorem State.HostAnswer.exists_of_wrp (hi : i.port = .host) (hidle : s.seq = .idle) (hwf : i.wf s.cfg = true)
    (hwrp : s.wrp = true ↔ i = .wrchunk) : ∃ t, s.HostAnswer i t := by
  cases i with
  | getrep => exact ⟨_, .getrep hidle (by simpa using hwrp)⟩
  | setrep => exact ⟨_, .setrep hwf hidle (by simpa using hwrp)⟩
  | wrchunk => exact ⟨_, .wrchunk hwf hidle (by simpa using hwrp)⟩
  | unhreq => exact ⟨_, .unhreq hidle (by simpa using hwrp)⟩
  | sample | build | msend | cycle => cases hi

/-- The answer from another state with the same parameters, `LAST`, `WRP` and `SEQ` tells the same (R167). -/
theorem State.HostAnswer.same_of_agree (hcfg : s.cfg = u.cfg) (hlast : s.last = u.last) (hwrp : s.wrp = u.wrp)
    (hseq : s.seq = u.seq) (h : s.HostAnswer i t) :
    ∃ v es, u.HostAnswer i v ∧ v.result = t.result ∧ v.wrp = t.wrp ∧
      t.trace = s.trace ++ es ∧ v.trace = u.trace ++ es := by
  cases h with
  | getrep hidle hw =>
    refine ⟨_, [.setResponsePointer (memRead u.last 0 u.cfg.n) u.cfg.n, .response .handled (some u.cfg.n)],
      .getrep (hseq ▸ hidle) (hwrp ▸ hw), ?_⟩
    rw [s.exposeLast_eq, u.exposeLast_eq, hcfg, hlast]
    exact ⟨rfl, hwrp.symm, rfl, rfl⟩
  | setrep hB hidle hw =>
    refine ⟨_, [.setDeferredWrite, .response .deferredWrite none], .setrep (hcfg ▸ hB) (hseq ▸ hidle) (hwrp ▸ hw), ?_⟩
    rw [s.deferWrite_eq, u.deferWrite_eq]
    exact ⟨rfl, rfl, rfl, rfl⟩
  | wrchunk hB hidle hw => exact ⟨_, _, .wrchunk (hcfg ▸ hB) (hseq ▸ hidle) (hwrp ▸ hw), rfl, rfl, rfl, rfl⟩
  | unhreq hidle hw => exact ⟨_, _, .unhreq (hseq ▸ hidle) (hwrp ▸ hw), rfl, hwrp.symm, rfl, rfl⟩
  | held hi hne hwf hidle hw =>
    exact ⟨_, [], .held hi hne (hcfg ▸ hwf) (hseq ▸ hidle) (hwrp ▸ hw), rfl, hwrp.symm,
      (List.append_nil _).symm, (List.append_nil _).symm⟩

end HostAnswer

/-! ### The refusals of SETREP and WRCHUNK -/

section Refusals

variable {s : State}

theorem Params.hasSetrep_of_A {p : Params} (h : p.variant = .A) : p.hasSetrep = false := by
  simp [Params.hasSetrep, h]

theorem State.admitSetReport_of_A (hA : s.cfg.variant = .A) : s.admitSetReport = .refuse .absentInVariantA := by
  simp [State.admitSetReport, Params.hasSetrep_of_A hA]

theorem State.admitChunk_of_A (hA : s.cfg.variant = .A) : s.admitChunk = .refuse .absentInVariantA := by
  simp [State.admitChunk, Params.hasSetrep_of_A hA]

theorem State.admitChunk_of_no_write (hB : s.cfg.variant = .B) (hidle : s.seq = .idle) (hwrp : s.wrp = false) :
    s.admitChunk = .refuse .noDeferredWrite := by
  simp [State.admitChunk, Params.hasSetrep_iff.mpr hB, hidle, hwrp]

end Refusals

/-! ### The environment's clearing of `WRP` -/

theorem State.clearWrpEvent_of_idle {s : State} (h : s.seq = .idle) : s.clearWrpEvent = .next { s with wrp := false } :=
  if_pos h

/-- The clearing of `WRP` answers a next state at an operation boundary only. -/
theorem State.clearWrpEvent_next {s t : State} (h : s.clearWrpEvent = .next t) :
    s.seq = .idle ∧ t = { s with wrp := false } := by
  by_cases hidle : s.seq = .idle
  · rw [State.clearWrpEvent_of_idle hidle] at h
    cases h; exact ⟨hidle, rfl⟩
  · simp [State.clearWrpEvent, hidle] at h

/-! ### The statements about one operation -/

/-- Settles O29, from GETREP's body and the length of `LAST`. -/
theorem getrepExposesLast : Obligations.GetrepExposesLast := by
  refine ⟨decodeOp_encode .getrep, fun s hidle hwrp hwf => ?_⟩
  rw [(State.HostAnswer.getrep hidle hwrp).exec_eq, State.exposeLast_eq, memRead_all (Report.wf_iff.mp hwf.2)]

/-- Settles O30, by the variant. -/
theorem setrepInvertsTheFlag : Obligations.SetrepInvertsTheFlag := by
  refine ⟨decodeOp_encode .setrep, fun s => ⟨fun hB hidle hwrp => ?_, fun hA => ?_⟩⟩
  · rw [(State.HostAnswer.setrep (Params.hasSetrep_iff.mpr hB) hidle hwrp).exec_eq, State.deferWrite_eq]
  · exact State.admitted_of_refuse (State.admitSetReport_of_A hA)

/-- Settles O31, by the variant and `WRP`; the body does not read the chunk. -/
theorem wrchunkCompletesTheWrite : Obligations.WrchunkCompletesTheWrite := by
  refine ⟨decodeOp_encode .wrchunk, fun s => ⟨fun hB hidle hwrp => ?_, fun hB hidle hwrp => ?_, fun hA => ?_⟩⟩
  · rw [(State.HostAnswer.wrchunk (Params.hasSetrep_iff.mpr hB) hidle hwrp).exec_eq, State.finishWrite_eq]
  · exact State.admitted_of_refuse (State.admitChunk_of_no_write hB hidle hwrp)
  · exact State.admitted_of_refuse (State.admitChunk_of_A hA)

/-- Settles O32, from UNHREQ's body. -/
theorem unhreqAnswersNotHandled : Obligations.UnhreqAnswersNotHandled := by
  refine ⟨decodeOp_encode .unhreq, fun s hidle hwrp => ?_⟩
  rw [(State.HostAnswer.unhreq hidle hwrp).exec_eq, State.answerNotHandled_eq]

/-- Settles O33: each of the three is a request that is held. -/
theorem requestsWaitForTheDeferredWrite : Obligations.RequestsWaitForTheDeferredWrite := by
  intro s hidle hwrp
  have hget : s.HostAnswer .getrep s.notAccept := .held rfl nofun rfl hidle hwrp
  have hunh : s.HostAnswer .unhreq s.notAccept := .held rfl nofun rfl hidle hwrp
  have hset (hB : s.cfg.variant = .B) : s.HostAnswer .setrep s.notAccept :=
    .held rfl nofun (Params.hasSetrep_iff.mpr hB) hidle hwrp
  exact ⟨hget.exec_eq, hunh.exec_eq, fun hB => (hset hB).exec_eq⟩

/-- Settles O35: the step is that stimulus. -/
theorem environmentMayClearWrp : Obligations.EnvironmentMayClearWrp := by
  intro s rest h hidle
  rw [step, h]
  exact State.clearWrpEvent_of_idle (s := { s with script := rest }) hidle

/-! ### The statements about the port as a whole -/

/-- Settles O34: an answer is one of an accepted operation or of a held request, told apart by the result. -/
theorem handlerFollowsWrp : Obligations.HandlerFollowsWrp := by
  intro i s hi hidle
  have hanswer (t : State) (h : exec i s = .next t) := (State.HostAnswer.of_exec hi h).accepted_or_held
  refine ⟨⟨fun ⟨t, h, hres⟩ => ?_, fun ⟨hwf, hwrp⟩ => ?_⟩, fun t h hres => ?_, fun t h hres => ?_⟩
  · obtain ⟨hwf, ⟨-, hwrp, -⟩ | ⟨hheld, -⟩⟩ := hanswer t h
    · exact ⟨hwf, hwrp⟩
    · exact absurd hheld hres
  · obtain ⟨t, ht⟩ := State.HostAnswer.exists_of_wrp hi hidle hwf hwrp
    obtain ⟨-, ⟨hres, -⟩ | ⟨-, hpending, hne, -⟩⟩ := ht.accepted_or_held
    · exact ⟨t, ht.exec_eq, hres⟩
    · exact absurd (hwrp.mp hpending) hne
  · obtain ⟨-, ⟨-, -, hnew⟩ | ⟨hheld, -⟩⟩ := hanswer t h
    · exact hnew
    · exact absurd hheld hres
  · obtain ⟨-, ⟨hacc, -⟩ | ⟨-, -, -, hsame⟩⟩ := hanswer t h
    · exact absurd hres hacc
    · exact hsame

/-- Settles O36, by what the operation answered. -/
theorem hostReachesOnlyFlagAndWrp : Obligations.HostReachesOnlyFlagAndWrp := by
  intro i s t hi h
  have hseq := exec_seq h
  cases State.HostAnswer.of_exec hi h with
  | getrep =>
    rw [State.exposeLast_eq]
    exact ⟨rfl, rfl, rfl, rfl, rfl, rfl, rfl, rfl, rfl, rfl, rfl, fun _ => rfl, _, rfl, rfl⟩
  | setrep =>
    rw [State.deferWrite_eq]
    exact ⟨rfl, rfl, rfl, rfl, rfl, rfl, rfl, rfl, rfl, rfl, rfl, fun hne => absurd rfl hne, _, rfl, rfl⟩
  | wrchunk | unhreq => exact ⟨rfl, rfl, rfl, rfl, rfl, rfl, rfl, rfl, rfl, rfl, rfl, fun _ => rfl, _, rfl, rfl⟩
  | held =>
    exact ⟨rfl, rfl, rfl, rfl, rfl, rfl, rfl, rfl, rfl, rfl, hseq, fun _ => rfl, [], (List.append_nil _).symm, rfl⟩

/-- Settles O37: the two states answer alike. -/
theorem hostLearnsOnlyLast : Obligations.HostLearnsOnlyLast := by
  intro i s u hi hcfg hlast hwrp hseq t h
  obtain ⟨v, es, hv, htold⟩ := (State.HostAnswer.of_exec hi h).same_of_agree hcfg hlast hwrp hseq
  exact ⟨v, es, hv.exec_eq, htold⟩

/-! ### The parity of the flag over runs -/

/-- From `s` to `t` the flag is inverted once per accepted SET_REPORT (R168). -/
def State.FlagFollows (s t : State) : Prop :=
  ∃ es, t.trace = s.trace ++ es ∧ t.fb = (s.fb ^^ decide (acceptedSetReports es % 2 = 1))

theorem acceptedSetReports_append (a b : List Event) :
    acceptedSetReports (a ++ b) = acceptedSetReports a + acceptedSetReports b :=
  List.count_append

section FlagFollows

variable {s t u : State} {es : List Event}

theorem State.FlagFollows.of_quiet (hfb : t.fb = s.fb) (htrace : t.trace = s.trace ++ es)
    (hes : acceptedSetReports es = 0) : s.FlagFollows t :=
  ⟨es, htrace, by rw [hfb, hes]; simp⟩

/-- Where no event is added. -/
theorem State.FlagFollows.of_same (hfb : t.fb = s.fb) (htrace : t.trace = s.trace) : s.FlagFollows t :=
  .of_quiet hfb (htrace.trans (List.append_nil _).symm) rfl

theorem State.FlagFollows.trans (h₁ : s.FlagFollows t) (h₂ : t.FlagFollows u) : s.FlagFollows u := by
  obtain ⟨es₁, htrace₁, hfb₁⟩ := h₁
  obtain ⟨es₂, htrace₂, hfb₂⟩ := h₂
  refine ⟨es₁ ++ es₂, by rw [htrace₂, htrace₁, List.append_assoc], ?_⟩
  rw [hfb₂, hfb₁, acceptedSetReports_append, decide_odd_add, Bool.xor_assoc]

/-- No row of R36 touches the flag or accepts a request. -/
theorem State.Row.flagFollows (h : s.Row t) : s.FlagFollows t := by
  cases h with
  | wait | buildEnds | buildCompares | changed | equal | copy | ledStays => exact .of_same rfl rfl
  | ready | notReady | loadLow | loadHigh | clockHigh | clockLow | read | sampleEnds | sampleBuilds | send | ledToggles =>
    exact .of_quiet rfl rfl rfl

/-- SETREP inverts the flag with its one event; every other answer does neither. -/
theorem State.HostAnswer.flagFollows {i : Instr} (h : s.HostAnswer i t) : s.FlagFollows t := by
  cases h with
  | getrep => rw [State.exposeLast_eq]; exact .of_quiet rfl rfl rfl
  | setrep => rw [State.deferWrite_eq]; exact ⟨_, rfl, (Bool.xor_true s.fb).symm⟩
  | wrchunk | unhreq => exact .of_quiet rfl rfl rfl
  | held => exact .of_same rfl rfl

theorem startOp_flagFollows {i : Instr} (h : startOp i s = .next u) : s.FlagFollows u := by
  cases hi : i.port with
  | host => rw [startOp_host hi] at h; exact (State.HostAnswer.of_exec hi h).flagFollows
  | engine =>
    obtain ⟨-, q, rfl, -⟩ := startOp_engine hi h
    exact .of_same rfl rfl

theorem exec_flagFollows {i : Instr} (h : exec i s = .next t) : s.FlagFollows t :=
  exec_keeps (fun _ => startOp_flagFollows) (fun u hu => hu.trans u.microStep_row.flagFollows) h

/-- Every stimulus but RESET, which puts the flag back without a request. -/
theorem stimulate_flagFollows {x : Stimulus} (hx : x ≠ .reset) (h : stimulate x s = .next t) : s.FlagFollows t := by
  have hinputs (inp : Inputs) : s.FlagFollows (s.withInputs inp) := .of_same rfl rfl
  cases x with
  | op code inp => exact (hinputs inp).trans (exec_flagFollows h)
  | start code inp => exact (hinputs inp).trans (startOp_flagFollows h)
  | hostreq req inp => exact (hinputs inp).trans (exec_flagFollows h)
  | tick => cases h; exact s.microStep_row.flagFollows
  | clearWrp =>
    obtain ⟨-, rfl⟩ := State.clearWrpEvent_next h
    exact .of_same rfl rfl
  | reset => exact absurd rfl hx

/-- One step of a run whose stimuli hold no reset. -/
theorem step_flagFollows (hreset : Stimulus.reset ∉ s.script) (h : step s = .next t) : s.FlagFollows t := by
  unfold step at h
  split at h
  · cases h; exact s.microStep_row.flagFollows
  next x rest hscript =>
    rw [hscript, List.mem_cons, not_or] at hreset
    obtain ⟨hx, -⟩ := hreset
    exact stimulate_flagFollows (s := { s with script := rest }) (Ne.symm hx) h

end FlagFollows

/-! ### The stimuli to come over a step -/

section Script

variable {s t u : State}

theorem exec_script {i : Instr} (h : exec i s = .next t) : t.script = s.script := by
  cases hi : i.port with
  | engine => exact (exec_engine_sameHandler hi h).script
  | host =>
    exact exec_host_keeps (P := fun u => u.script = s.script) hi (fun _ => rfl) (fun _ _ => rfl) (fun _ _ => rfl)
      (fun _ => rfl) (fun _ => rfl) h

theorem startOp_script {i : Instr} (h : startOp i s = .next u) : u.script = s.script := by
  cases hi : i.port with
  | engine => obtain ⟨-, q, rfl, -⟩ := startOp_engine hi h; rfl
  | host => rw [startOp_host hi] at h; exact exec_script h

theorem stimulate_script {x : Stimulus} (h : stimulate x s = .next t) : t.script = s.script := by
  cases x with
  | op code inp | hostreq req inp => exact exec_script (s := s.withInputs inp) h
  | start code inp => exact startOp_script (s := s.withInputs inp) h
  | tick => cases h; exact s.microStep_row.sameHandler.script
  | clearWrp => obtain ⟨-, rfl⟩ := State.clearWrpEvent_next h; rfl
  | reset => cases h; rfl

/-- A step takes one stimulus off the script, if there is one, and puts none there. -/
theorem step_script (h : step s = .next t) : t.script = s.script.tail := by
  unfold step at h
  split at h
  next hscript => cases h; rw [s.microStep_row.sameHandler.script, hscript]; rfl
  next x rest hscript => rw [stimulate_script h, hscript]; rfl

end Script

/-- Settles O40, by induction on the steps: parities add up, and no step puts a reset into the script. -/
theorem flagIsParityOfSetReports : Obligations.FlagIsParityOfSetReports := by
  intro s t k hreset h
  change s.FlagFollows t
  induction k generalizing s with
  | zero => cases h; exact .of_same rfl rfl
  | succ k ih =>
    obtain ⟨u, hstep, hrun⟩ := runSteps_succ_next h
    have hrest : Stimulus.reset ∉ u.script := fun hmem => hreset (List.mem_of_mem_tail (step_script hstep ▸ hmem))
    exact (step_flagFollows hreset hstep).trans (ih u hrest hrun)

end Sys2Proof.Machine

/-! PROOFS (60_exceptions.md). The entry condition of each operation as one function, whether the operation is taken at once or
started; from what that condition decides, the statement of R181 on what is refused. -/

namespace Sys2Proof.Machine

section Admissions

variable {s : State} {i : Instr}

/-- The entry condition that `exec` and `startOp` ask of each operation (R100, R120, R140, R145, R160 to R163). -/
def State.admission (s : State) : Instr → Admission
  | .sample => s.admitEngine
  | .build => s.admitEngine
  | .msend => s.admitSend
  | .cycle => s.admitEngine
  | .getrep => s.admitRequest
  | .setrep => s.admitSetReport
  | .wrchunk => s.admitChunk
  | .unhreq => s.admitRequest

theorem exec_eq_admitted (i : Instr) (s : State) : ∃ body, exec i s = s.admitted (s.admission i) body := by
  cases i <;> exact ⟨_, rfl⟩

theorem exec_of_refuse {r : Refusal} (h : s.admission i = .refuse r) : exec i s = .refused r := by
  obtain ⟨body, hexec⟩ := exec_eq_admitted i s
  rw [hexec, State.admitted_of_refuse h]

theorem exec_answers_iff (i : Instr) (s : State) :
    (∃ t, exec i s = .next t) ↔ s.admission i = .accept ∨ s.admission i = .hold := by
  obtain ⟨body, hexec⟩ := exec_eq_admitted i s
  rw [hexec]
  constructor
  · rintro ⟨t, h⟩
    exact (State.admitted_next h).imp And.left And.left
  · rintro (h | h)
    · exact ⟨_, State.admitted_of_accept h⟩
    · exact ⟨_, State.admitted_of_hold h⟩

/-- The operations a variant lacks are SETREP and WRCHUNK, and the variant is A (R80). -/
theorem Instr.wf_eq_false {p : Params} (h : i.wf p = false) : p.variant = .A ∧ (i = .setrep ∨ i = .wrchunk) := by
  have hA (hsetrep : p.hasSetrep = false) : p.variant = .A := by
    cases hv : p.variant with
    | A => rfl
    | B => rw [Params.hasSetrep_iff.mpr hv] at hsetrep; cases hsetrep
  cases i with
  | setrep => exact ⟨hA h, .inl rfl⟩
  | wrchunk => exact ⟨hA h, .inr rfl⟩
  | sample | build | msend | cycle | getrep | unhreq => cases h

theorem State.admission_of_absent (h : i.wf s.cfg = false) : s.admission i = .refuse .absentInVariantA := by
  obtain ⟨hA, rfl | rfl⟩ := Instr.wf_eq_false h
  · exact State.admitSetReport_of_A hA
  · exact State.admitChunk_of_A hA

/-- Every entry condition asks for an idle sequencer, after the variant (R36, U10; log 13). -/
theorem State.admission_of_busy (hwf : i.wf s.cfg = true) (hbusy : s.seq ≠ .idle) : s.admission i = .refuse .busy := by
  cases i with
  | sample | build | msend | cycle | getrep | unhreq => exact if_neg hbusy
  | setrep | wrchunk => exact (if_pos hwf).trans (if_neg hbusy)

/-- With the sequencer idle, only MSEND's and WRCHUNK's entry conditions can still refuse (R144, R162). -/
theorem State.admission_of_idle (hwf : i.wf s.cfg = true) (hidle : s.seq = .idle) :
    (s.admission i = .accept ∨ s.admission i = .hold) ↔
      ¬ (i = .msend ∧ s.inp.ready = false) ∧ ¬ (i = .wrchunk ∧ s.wrp = false) := by
  cases i with
  | sample | build | cycle => simp [State.admission, State.admitEngine_accept, hidle]
  | msend => simp [State.admission, State.admitSend_accept, State.admitSend_ne_hold, hidle]
  | getrep | unhreq => simp [State.admission, State.admitRequest_accept, State.admitRequest_hold, hidle]
  | setrep =>
    have hB : s.cfg.hasSetrep = true := hwf
    simp [State.admission, State.admitSetReport_accept, State.admitSetReport_hold, hB, hidle]
  | wrchunk =>
    have hB : s.cfg.hasSetrep = true := hwf
    simp [State.admission, State.admitChunk_accept, State.admitChunk_ne_hold, hB, hidle]

end Admissions

/-- Settles O41, by the entry conditions: what is refused at once is refused when started too, since the micro-steps refine the
operations. -/
theorem refusalsAreExactlyTheNamedOnes : Obligations.RefusalsAreExactlyTheNamedOnes := by
  intro i s
  refine ⟨fun habsent => exec_of_refuse (State.admission_of_absent habsent), fun hwf hbusy => ?_, fun hwf hidle => ?_⟩
  · have hexec := exec_of_refuse (State.admission_of_busy hwf hbusy)
    obtain ⟨-, hstarted⟩ := microStepsRefineTheOperations i s
    exact ⟨hexec, hstarted .busy hexec⟩
  · exact (exec_answers_iff i s).trans (State.admission_of_idle hwf hidle)

end Sys2Proof.Machine

/-! PROOFS (70_reset_and_hazards.md). What one step makes of RESET as the next stimulus (R200), and from that equation the
registers as R35 lists them. -/

namespace Sys2Proof.Machine

/-- A step that meets RESET is the reset event, whatever the block was doing: no entry condition stands before it (R200). -/
theorem step_of_reset {s : State} {rest : List Stimulus} (h : s.script = .reset :: rest) :
    step s = .next ({ s with script := rest } : State).resetEvent := by
  simp only [step, h, stimulate]

/-- The reset event only moves the events so far from the one record to the other (log 10). -/
theorem State.resetEvent_events (s : State) :
    s.resetEvent.earlier ++ s.resetEvent.trace = s.earlier ++ s.trace := by
  rw [State.resetEvent_earlier, State.resetEvent_trace, List.append_nil]

/-- Settles O45: the step is the reset event, which leaves each register as `State.resetOf` has it and no event emitted. -/
theorem resetEventFromAnyState : Obligations.ResetEventFromAnyState := by
  intro s rest h
  have hevents := State.resetEvent_events { s with script := rest }
  exact ⟨_, step_of_reset h, rfl, rfl, rfl, rfl, rfl, rfl, rfl, rfl, rfl, rfl, hevents, rfl⟩

end Sys2Proof.Machine
